-- ==== Sys2Proof/Word.lean ====
section
/-! DEFINITION. The widths the spec moves values in (00_scope.md rule R4, section 5.1). -/

namespace Sys2Proof

/-- A byte of memory: 8 bits (20_memory.md rule R42; the size is GK13). -/
abbrev Byte := BitVec 8

/-- A 64-bit value: `RIP`, `RSP`, `SSP`, an MSR, a linear address (00_scope.md rule R4). -/
abbrev Word := BitVec 64

/-- A 16-bit segment selector (00_scope.md rule R4). -/
abbrev Selector := BitVec 16

/-- A privilege level, 0 to 3 (10_state.md rule R18). -/
abbrev Privilege := BitVec 2

end Sys2Proof
end

