-- ==== Sys2Proof/Config.lean ====
section
/-! DEFINITION. The implementation parameters of 00_scope.md rule R4, and the values the spec leaves free. -/

namespace Sys2Proof

/-- Which definition `ShadowStackEnabled` and `EndbranchEnabled` have on this processor (10_state.md rule R28).
DESIGN CHOICE (safe), notes/assumptions/8.md. -/
inductive CetRule where
  /-- the customary definition that rule R28 writes out (GK11) -/
  | customary
  /-- no definition: two opaque functions of the processor state and the privilege level (decision D9) -/
  | unstated
  deriving DecidableEq, Repr

/-- The parameters the spec leaves to the particular processor (00_scope.md rule R4). They are carried in the state
and no step changes them, so a statement about every state is a statement for all their values
(70_reset_and_hazards.md rule R140, `P_cfg`). DESIGN CHOICE (safe), notes/assumptions/1.md. -/
structure Config where
  /-- `SEP_PRESENT`: the processor has SYSENTER (rule R2) -/
  sepPresent : Bool
  /-- `LA_WIDTH`, the source's `N`, from 1 to 64 (10_state.md rule R29) -/
  laWidth : Nat
  /-- `INTEL64_PRESENT`: when false, `IA32_EFER.LMA` is constantly 0 (decision D28) -/
  intel64Present : Bool
  /-- `CET_PRESENT`: when false, both CET predicates are constantly false (decision D9) -/
  cetPresent : Bool
  /-- which definition the two CET predicates have (decision D9) -/
  cetRule : CetRule
  deriving DecidableEq, Repr

/-- The free values of the model: the k-th `any value` half word that a run draws (decision D8). It has no body, so
nothing can be proved of what it is. DESIGN CHOICE (safe for the values), notes/assumptions/7.md. -/
opaque Config.freeHigh : Nat → BitVec 32

end Sys2Proof
end

