-- ==== Sys2Proof/Machine/State.lean ====
section
/-! DEFINITION. The state of the logical processor (10_state.md rule R32), the outcomes' reasons, and reset.

One-bit elements are Bool, true for 1. A `rest` field holds the bits of a register that the spec does not name, in
ascending order of their positions, wherever the named bits lie (notes/assumptions/5.md). -/

namespace Sys2Proof.Machine

/-- `RFLAGS`, 64 bits (10_state.md rule R13). -/
structure Rflags where
  /-- `RFLAGS.VM`: virtual-8086 mode -/
  VM : Bool
  /-- `RFLAGS.IF`: interrupts are masked while it is 0 -/
  IF : Bool
  /-- the other 62 bits -/
  rest : BitVec 62
  deriving DecidableEq, Repr

/-- `CR0` (10_state.md rule R19). -/
structure Cr0 where
  /-- `CR0.PE`: protection enable -/
  PE : Bool
  rest : BitVec 63
  deriving DecidableEq, Repr

/-- `CR4`, of which the customary CET predicates read one bit (10_state.md rule R28, GK11). -/
structure Cr4 where
  CET : Bool
  rest : BitVec 63
  deriving DecidableEq, Repr

/-- The MSR `IA32_EFER` (10_state.md rule R24). -/
structure Efer where
  /-- `IA32_EFER.LMA`: IA-32e mode is active -/
  LMA : Bool
  rest : BitVec 63
  deriving DecidableEq, Repr

/-- The values of `IA32_S_CET.TRACKER` (10_state.md rule R27, decision D26). -/
inductive Tracker where
  | idle
  | waitForEndbranch
  deriving DecidableEq, Repr

/-- The MSR `IA32_S_CET` (10_state.md rules R27, R28). -/
structure SCet where
  TRACKER : Tracker
  SUPPRESS : Bool
  /-- read by the customary `ShadowStackEnabled` at levels 0 to 2 (rule R28, GK11) -/
  SH_STK_EN : Bool
  /-- read by the customary `EndbranchEnabled` at levels 0 to 2 (rule R28, GK11) -/
  ENDBR_EN : Bool
  rest : BitVec 60
  deriving DecidableEq, Repr

/-- The MSR `IA32_U_CET` (10_state.md rule R28, GK11). -/
structure UCet where
  /-- read by the customary `ShadowStackEnabled` at level 3 -/
  SH_STK_EN : Bool
  /-- read by the customary `EndbranchEnabled` at level 3 -/
  ENDBR_EN : Bool
  rest : BitVec 62
  deriving DecidableEq, Repr

/-- `CS`: the selector, and the descriptor cache as exactly the fields SYSENTER assigns (10_state.md rules R14, R15). -/
structure CodeSegment where
  selector : Selector
  base : Word
  limit : BitVec 20
  type : BitVec 4
  s : Bool
  dpl : Privilege
  p : Bool
  /-- 64-bit code segment -/
  l : Bool
  /-- default operation size -/
  d : Bool
  /-- 4-KByte granularity -/
  g : Bool
  deriving DecidableEq, Repr

/-- `SS` (10_state.md rule R16); the same shape carries `DS`, `ES`, `FS`, `GS` and `LDTR` (rule R17).
PRESUMED for those, notes/assumptions/6.md. -/
structure DataSegment where
  selector : Selector
  base : Word
  limit : BitVec 20
  type : BitVec 4
  s : Bool
  dpl : Privilege
  p : Bool
  /-- 32-bit stack segment -/
  b : Bool
  /-- 4-KByte granularity -/
  g : Bool
  deriving DecidableEq, Repr

/-- `GDTR` or `IDTR` (10_state.md rule R17). PRESUMED, notes/assumptions/6.md. -/
structure TableRegister where
  base : Word
  limit : BitVec 16
  deriving DecidableEq, Repr

/-- The general registers other than `RSP` (10_state.md rule R12). PRESUMED (GK14), notes/assumptions/4.md. -/
structure Gprs where
  rax : Word
  rcx : Word
  rdx : Word
  rbx : Word
  rbp : Word
  rsi : Word
  rdi : Word
  r8 : Word
  r9 : Word
  r10 : Word
  r11 : Word
  r12 : Word
  r13 : Word
  r14 : Word
  r15 : Word
  deriving DecidableEq, Repr

/-- The processor: every element of 10_state.md rule R32. -/
structure Cpu where
  /-- rule R10 -/
  rip : Word
  /-- rule R11 -/
  rsp : Word
  gprs : Gprs
  rflags : Rflags
  cs : CodeSegment
  ss : DataSegment
  ds : DataSegment
  es : DataSegment
  fs : DataSegment
  gs : DataSegment
  gdtr : TableRegister
  idtr : TableRegister
  ldtr : DataSegment
  /-- rule R18 -/
  cpl : Privilege
  cr0 : Cr0
  cr4 : Cr4
  efer : Efer
  /-- `IA32_SYSENTER_CS`, `MSR[174H]` (rule R20) -/
  sysenterCs : Word
  /-- `IA32_SYSENTER_ESP`, `MSR[175H]` (rule R21) -/
  sysenterEsp : Word
  /-- `IA32_SYSENTER_EIP`, `MSR[176H]` (rule R22) -/
  sysenterEip : Word
  /-- `SSP` (rule R25) -/
  ssp : Word
  /-- `IA32_PL3_SSP` (rule R26) -/
  pl3Ssp : Word
  sCet : SCet
  uCet : UCet
  deriving DecidableEq, Repr

/-- The instruction memory `IMem`: the mapped bytes, addresses strictly rising (20_memory.md rule R43). -/
abbrev Memory := List Host.Cell

/-- The state: the processor of rule R32, and what the step relation takes beside it (rules R4, R43; notes/assumptions/1.md). -/
structure State where
  /-- the parameters of 00_scope.md rule R4, which no step changes -/
  cfg : Config
  cpu : Cpu
  /-- `IMem`, which no step changes (20_memory.md rule R50) -/
  mem : Memory
  /-- the model's own field: how many free values have been drawn (notes/assumptions/7.md) -/
  draws : Nat
  deriving DecidableEq, Repr

/-- The exceptions of 60_exceptions.md section 1. Each ends the run with the state unchanged (rule R125): safe, the chip
goes on into a handler of which nothing can be proved (notes/assumptions/16.md). -/
inductive Fault where
  /-- `#GP(errorCode)`, raised by SYSENTER in real-address mode or on a null selector (rules R120, R121); the error code
  is 0. Safe. -/
  | gp (errorCode : Nat)
  /-- `#UD`, raised by the LOCK form in every mode (rule R122). Safe, but for which of two faults is reported
  (notes/assumptions/15.md). -/
  | ud
  deriving DecidableEq, Repr

/-- The refusals of 70_reset_and_hazards.md rule R144 and 41_related_instructions.md rule R106. All are safe: a refusal
says nothing of what the chip does. -/
inductive Refusal where
  /-- an arm of `exec` without a meaning; no arm of this model raises it. Safe. -/
  | notModelled (mnemonic : String)
  /-- `fetch_unmapped`, raised by the fetch: a byte it needs is not mapped (20_memory.md rule R43). Safe. -/
  | fetchUnmapped
  /-- `not_in_scope`, raised by the decoder: the bytes match no row of the opcode table (30_encoding.md rule R68). Safe. -/
  | notInScope
  /-- `prefix_not_in_scope`, raised by the decoder: a prefix other than LOCK before `0F 34` (30_encoding.md rule R64). Safe. -/
  | prefixNotInScope
  /-- `sep_absent`, raised by both instructions where the processor lacks them (00_scope.md rule R2). Safe. -/
  | sepAbsent
  /-- `noncanonical_msr`, raised by SYSENTER when the premise of 10_state.md rule R23 fails. Safe. -/
  | noncanonicalMsr
  /-- `cet_predicate_ambiguous`, raised by SYSENTER when the two readings of the first CET predicate differ
  (40_sysenter.md rule R85). Safe. -/
  | cetPredicateAmbiguous
  /-- `noncanonical_msr_write`, raised by the host's `WriteMSR` (41_related_instructions.md rule R106). Safe. -/
  | noncanonicalMsrWrite
  deriving DecidableEq, Repr

/-- What an instruction, a step or a host primitive answers (00_scope.md section 5.3). -/
abbrev Result := Host.Outcome State Fault Refusal

/-- The parameters at reset: the sample values of 95_test_vectors.md. DESIGN CHOICE (unsafe), notes/assumptions/2.md. -/
def resetConfig : Config :=
  { sepPresent := true, laWidth := 48, intel64Present := true, cetPresent := false, cetRule := .customary }

/-- A data segment register at reset. PRESUMED (the family's), notes/assumptions/3.md. -/
def resetDataSegment : DataSegment :=
  { selector := 0, base := 0, limit := 0x0FFFF, type := 3, s := true, dpl := 0, p := true, b := false, g := false }

/-- The processor at reset: the spec gives no reset value (10_state.md rule R33), so every value is the family's.
PRESUMED (unsafe), notes/assumptions/3.md. -/
def resetCpu : Cpu :=
  { rip := 0xFFF0
    rsp := 0
    gprs :=
      { rax := 0, rcx := 0, rdx := 0x600, rbx := 0, rbp := 0, rsi := 0, rdi := 0
        r8 := 0, r9 := 0, r10 := 0, r11 := 0, r12 := 0, r13 := 0, r14 := 0, r15 := 0 }
    rflags := { VM := false, IF := false, rest := 2 }
    cs :=
      { selector := 0xF000, base := 0xFFFF0000, limit := 0x0FFFF, type := 3, s := true, dpl := 0, p := true
        l := false, d := false, g := false }
    ss := resetDataSegment
    ds := resetDataSegment
    es := resetDataSegment
    fs := resetDataSegment
    gs := resetDataSegment
    gdtr := { base := 0, limit := 0xFFFF }
    idtr := { base := 0, limit := 0xFFFF }
    ldtr := { resetDataSegment with type := 2, s := false }
    cpl := 0
    cr0 := { PE := false, rest := 0x30000008 }
    cr4 := { CET := false, rest := 0 }
    efer := { LMA := false, rest := 0 }
    sysenterCs := 0
    sysenterEsp := 0
    sysenterEip := 0
    ssp := 0
    pl3Ssp := 0
    sCet := { TRACKER := .idle, SUPPRESS := false, SH_STK_EN := false, ENDBR_EN := false, rest := 0 }
    uCet := { SH_STK_EN := false, ENDBR_EN := false, rest := 0 } }

/-- The machine right after reset. The spec states no reset value (10_state.md rule R33; 70_reset_and_hazards.md rule
R140): the processor's values are PRESUMED (the family's, notes/assumptions/3.md), the parameters and the empty memory
a DESIGN CHOICE (notes/assumptions/2.md, notes/assumptions/19.md). All unsafe. -/
def State.reset : State :=
  { cfg := resetConfig, cpu := resetCpu, mem := [], draws := 0 }

end Sys2Proof.Machine
end

