-- ==== Sys2Proof/Machine/Cet.lean ====
section
/-! DEFINITION. The two predicates of Control-flow Enforcement Technology that SYSENTER reads (10_state.md rule R28). -/

namespace Sys2Proof

/-- `ShadowStackEnabled` on a processor for which no definition is stated: it depends on the processor state and the
level alone, and nothing else is known of it (decision D9). DESIGN CHOICE (safe), notes/assumptions/8.md. -/
opaque Config.shadowStackUnstated : Machine.Cpu → Privilege → Bool

/-- `EndbranchEnabled`, likewise (decision D9). DESIGN CHOICE (safe), notes/assumptions/8.md. -/
opaque Config.endbranchUnstated : Machine.Cpu → Privilege → Bool

namespace Machine

/-- What both customary predicates share: `CR4.CET = 1 and CR0.PE = 1 and RFLAGS.VM = 0` (10_state.md rule R28). -/
def cetActive (c : Cpu) : Bool := c.cr4.CET && c.cr0.PE && !c.rflags.VM

/-- The customary `ShadowStackEnabled` (10_state.md rule R28). PRESUMED (GK11), notes/assumptions/8.md. -/
def shadowStackCustomary (c : Cpu) (cpl : Privilege) : Bool :=
  cetActive c && (if cpl = 3 then c.uCet.SH_STK_EN else c.sCet.SH_STK_EN)

/-- The customary `EndbranchEnabled` (10_state.md rule R28). PRESUMED (GK11), notes/assumptions/8.md. -/
def endbranchCustomary (c : Cpu) (cpl : Privilege) : Bool :=
  cetActive c && (if cpl = 3 then c.uCet.ENDBR_EN else c.sCet.ENDBR_EN)

/-- `ShadowStackEnabled(CPL)`, false where `CET_PRESENT` is false (10_state.md rule R28). -/
def shadowStackEnabled (cfg : Config) (c : Cpu) (cpl : Privilege) : Bool :=
  cfg.cetPresent && match cfg.cetRule with
    | .customary => shadowStackCustomary c cpl
    | .unstated => Config.shadowStackUnstated c cpl

/-- `EndbranchEnabled(CPL)`, false where `CET_PRESENT` is false (10_state.md rule R28). -/
def endbranchEnabled (cfg : Config) (c : Cpu) (cpl : Privilege) : Bool :=
  cfg.cetPresent && match cfg.cetRule with
    | .customary => endbranchCustomary c cpl
    | .unstated => Config.endbranchUnstated c cpl

end Machine

end Sys2Proof
end

