-- ==== Sys2Proof/Machine/Flags.lean ====
section
/-! DEFINITION. The flags SYSENTER writes, and the operating mode read off four bits (10_state.md rules R13, R30). -/

namespace Sys2Proof.Machine

/-- Lines 2 and 3: `RFLAGS.VM <- 0` and `RFLAGS.IF <- 0`, the only flags written (40_sysenter.md rule R82). -/
def clearVmIf (c : Cpu) : Cpu :=
  { c with rflags := { c.rflags with VM := false, IF := false } }

/-- `IA32_EFER.LMA`, which is constantly 0 where `INTEL64_PRESENT` is false (10_state.md rule R24, decision D28); it is
also the meaning of "in IA-32e mode" (decision D3; notes/assumptions/10.md). -/
def State.lma (s : State) : Bool := s.cfg.intel64Present && s.cpu.efer.LMA

/-- The operating modes (10_state.md rule R30). -/
inductive Mode where
  | realAddress
  /-- protected mode proper -/
  | protectedProper
  | virtual8086
  | compatibility
  /-- 64-bit mode -/
  | bit64
  deriving DecidableEq, Repr

/-- The operating mode, the predicates of 10_state.md rule R30 in order. -/
def State.mode (s : State) : Mode :=
  if !s.cpu.cr0.PE then .realAddress
  else if s.lma then (if s.cpu.cs.l then .bit64 else .compatibility)
  else if s.cpu.rflags.VM then .virtual8086
  else .protectedProper

end Sys2Proof.Machine
end

