-- ==== Sys2Proof/Machine/Operands.lean ====
section
/-! DEFINITION. The implicit operands: bit fields, half words, the selector arithmetic, `LA_adjust`. -/

namespace Sys2Proof.Machine

/-- `v[31:0]` (00_scope.md section 5.1). -/
def low32 (v : Word) : BitVec 32 := v.extractLsb' 0 32

/-- `hi ++ lo`: a register whose low half is loaded and whose high half is given (40_sysenter.md rule R83). -/
def joinHalves (hi lo : BitVec 32) : Word := hi ++ lo

/-- `zext_64` of a 32-bit value (00_scope.md section 5.1). -/
def zext64 (v : BitVec 32) : Word := v.setWidth 64

/-- `v[15:0]`, the selector in `IA32_SYSENTER_CS` (10_state.md rule R20). -/
def selectorField (v : Word) : Selector := v.extractLsb' 0 16

/-- `v[15:2]`, the bits of the null check (40_sysenter.md rule R81). -/
def nullCheckField (v : Word) : BitVec 14 := v.extractLsb' 2 14

/-- `sel AND FFFCH`: "RPL forced to 0" (40_sysenter.md rule R84). -/
def clearRpl (sel : Selector) : Selector := sel &&& 0xFFFC

/-- `sel[1:0]`, the requested privilege level (10_state.md rule R14). -/
def rpl (sel : Selector) : Privilege := sel.extractLsb' 0 2

/-- `(sel + 8) mod 2^16` (40_sysenter.md rule R96). UNVERIFIED of the chip (decision D7), notes/assumptions/13.md. -/
def selectorAbove (sel : Selector) : Selector := sel + 8

/-- `LA_adjust(v) = sext_64(v[N-1:0])`: "bits 63:N get the value of bit N-1" (10_state.md rule R29). -/
def laAdjust (n : Nat) (v : Word) : Word := (v.setWidth n).signExtend 64

/-- `canonical(v)`: `LA_adjust(v) = v` (10_state.md rule R29; GK8). -/
def canonical (n : Nat) (v : Word) : Bool := laAdjust n v == v

end Sys2Proof.Machine
end

