-- ==== Sys2Proof/Machine/Ops.lean ====
section
/-! DEFINITION. The operations over memory, the raising of an exception, and the premises a step is refused without. -/

namespace Sys2Proof.Machine

/-- The byte mapped at a linear address, none where nothing is mapped (20_memory.md rule R43). -/
def Memory.read : Memory → Word → Option Byte
  | [], _ => none
  | (k, b) :: m, a => if k = a.toNat then some b else Memory.read m a

/-- Map a byte at a linear address; used by the loading of a program alone (20_memory.md rules R40, R50). -/
def Memory.write : Memory → Word → Byte → Memory
  | [], a, b => [(a.toNat, b)]
  | (k, c) :: m, a, b =>
    if a.toNat < k then (a.toNat, b) :: (k, c) :: m
    else if k = a.toNat then (k, b) :: m
    else (k, c) :: Memory.write m a b

/-- Map bytes at consecutive linear addresses, the first at the lowest (20_memory.md rule R44). -/
def Memory.writeBytes : Memory → Word → List Byte → Memory
  | m, _, [] => m
  | m, a, b :: bs => Memory.writeBytes (Memory.write m a b) (a + 1) bs

/-- The addresses of a memory lie below 2^64 and above `lo`, and rise strictly. -/
def Memory.risesFrom : Nat → Memory → Bool
  | _, [] => true
  | lo, (k, _) :: m => decide (lo ≤ k) && decide (k < 2 ^ 64) && Memory.risesFrom (k + 1) m

/-- The canonical form: addresses strictly rising, each a 64-bit linear address. An unlisted address has no byte, so no
entry can equal what an unlisted address reads as. -/
def Memory.wf (m : Memory) : Bool := Memory.risesFrom 0 m

/-- `raise X(e)`: the step ends with the exception; the state stays the start state (60_exceptions.md rule R125). The
spec describes no delivery and no return (rules R125, R129): notes/assumptions/16.md. -/
def raise (f : Fault) : Result := .fault f

/-- Go on where the processor has the instruction, else `Refused(sep_absent)` (00_scope.md rule R2). -/
def requireSep (s : State) (k : Result) : Result :=
  if s.cfg.sepPresent then k else .refused .sepAbsent

/-- The premise `P_canon`: both address MSRs are canonical; vacuous where `INTEL64_PRESENT` is false (10_state.md rule R23). -/
def canonicalMsrs (cfg : Config) (c : Cpu) : Bool :=
  !cfg.intel64Present || (canonical cfg.laWidth c.sysenterEip && canonical cfg.laWidth c.sysenterEsp)

/-- Go on where `P_canon` holds, else `Refused(noncanonical_msr)` (70_reset_and_hazards.md rule R144). -/
def requireCanonicalMsrs (s : State) (k : Result) : Result :=
  if canonicalMsrs s.cfg s.cpu then k else .refused .noncanonicalMsr

/-- Go on where the two readings of a predicate agree, else `Refused(cet_predicate_ambiguous)` (40_sysenter.md rule R85). -/
def requireAgreement (invoked literal : Bool) (k : Result) : Result :=
  if invoked == literal then k else .refused .cetPredicateAmbiguous

end Sys2Proof.Machine
end

