-- ==== Sys2Proof/Machine/FastCall.lean ====
section
/-! DEFINITION. The fast system call: the pseudocode of 40_sysenter.md rule R80, one effect each, and the meanings of
the two rows of the opcode table. Line numbers are those of rule R80. -/

namespace Sys2Proof.Machine

/-- Line 1: the condition of `#GP(0)`, `CR0.PE = 0 or IA32_SYSENTER_CS[15:2] = 0` (40_sysenter.md rule R81). -/
def entryCheckFails (c : Cpu) : Bool := !c.cr0.PE || nullCheckField c.sysenterCs == 0

/-- Lines 4 to 9: `RSP` and `RIP` from the address MSRs, all 64 bits in IA-32e mode, else the low halves, the high
halves being the free values given (40_sysenter.md rule R83, decision D8). -/
def loadPointers (lma : Bool) (hiRsp hiRip : BitVec 32) (c : Cpu) : Cpu :=
  { c with
    rsp := if lma then c.sysenterEsp else joinHalves hiRsp (low32 c.sysenterEsp)
    rip := if lma then c.sysenterEip else joinHalves hiRip (low32 c.sysenterEip) }

/-- The code segment SYSENTER loads: the given selector and fixed values, decimal 11 for the type (40_sysenter.md rule
R84; 10_state.md rule R15). -/
def entryCs (lma : Bool) (selector : Selector) : CodeSegment :=
  { selector := selector, base := 0, limit := 0xFFFFF, type := 11, s := true, dpl := 0, p := true
    l := lma, d := !lma, g := true }

/-- Lines 10 to 14 (40_sysenter.md rule R84). -/
def loadCs (lma : Bool) (c : Cpu) : Cpu :=
  { c with cs := entryCs lma (clearRpl (selectorField c.sysenterCs)) }

/-- Lines 2 to 14: what stands before the first CET predicate. -/
def throughLine14 (lma : Bool) (hiRsp hiRip : BitVec 32) (c : Cpu) : Cpu :=
  loadCs lma (loadPointers lma hiRsp hiRip (clearVmIf c))

/-- Lines 15 to 17: the caller's `SSP` to `IA32_PL3_SSP`, adjusted in IA-32e mode, where `save` holds (40_sysenter.md
rule R85; all 64 bits outside IA-32e mode, decision D18, notes/assumptions/14.md). -/
def saveSsp (laWidth : Nat) (lma save : Bool) (c : Cpu) : Cpu :=
  { c with pl3Ssp := if save then (if lma then laAdjust laWidth c.ssp else c.ssp) else c.pl3Ssp }

/-- Line 18 (40_sysenter.md rule R86). -/
def enterLevel0 (c : Cpu) : Cpu := { c with cpl := 0 }

/-- Line 19, on the state the earlier lines left (40_sysenter.md rule R87). -/
def clearSsp (cfg : Config) (c : Cpu) : Cpu :=
  { c with ssp := if shadowStackEnabled cfg c 0 then 0 else c.ssp }

/-- Lines 20 to 22, on the state the earlier lines left (40_sysenter.md rule R88). -/
def armTracker (cfg : Config) (c : Cpu) : Cpu :=
  { c with
    sCet :=
      if endbranchEnabled cfg c 0 then { c.sCet with TRACKER := .waitForEndbranch, SUPPRESS := false } else c.sCet }

/-- The stack segment SYSENTER loads: the given selector and fixed values (40_sysenter.md rule R89). -/
def entrySs (selector : Selector) : DataSegment :=
  { selector := selector, base := 0, limit := 0xFFFFF, type := 3, s := true, dpl := 0, p := true, b := true, g := true }

/-- Lines 23 to 25; the `CS.Selector` on the right is the new one (40_sysenter.md rules R89, R96). -/
def loadSs (c : Cpu) : Cpu :=
  { c with ss := entrySs (selectorAbove c.cs.selector) }

/-- Lines 2 to 25 on the processor; `save` is the value of the first CET predicate. -/
def throughLine25 (cfg : Config) (lma save : Bool) (hiRsp hiRip : BitVec 32) (c : Cpu) : Cpu :=
  loadSs (armTracker cfg (clearSsp cfg (enterLevel0
    (saveSsp cfg.laWidth lma save (throughLine14 lma hiRsp hiRip c)))))

/-- The free value for bits 63:32 of `RSP` (decision D8). DESIGN CHOICE (safe for the values), notes/assumptions/7.md. -/
def freeHighRsp (s : State) : BitVec 32 := Config.freeHigh s.draws

/-- The free value for bits 63:32 of `RIP` (decision D8). DESIGN CHOICE (safe for the values), notes/assumptions/7.md. -/
def freeHighRip (s : State) : BitVec 32 := Config.freeHigh (s.draws + 1)

/-- The first CET predicate as the spec reads it: on the start state, with the caller's level (40_sysenter.md rule R85). -/
def invokedReading (s : State) : Bool := shadowStackEnabled s.cfg s.cpu s.cpu.cpl

/-- The first CET predicate read literally: on the state after lines 1 to 14 (40_sysenter.md rule R85). -/
def literalReading (s : State) : Bool :=
  shadowStackEnabled s.cfg (throughLine14 s.lma (freeHighRsp s) (freeHighRip s) s.cpu) s.cpu.cpl

/-- Lines 2 to 25 on the state; outside IA-32e mode two free values are drawn. -/
def enterKernel (s : State) : State :=
  { s with
    cpu := throughLine25 s.cfg s.lma (invokedReading s) (freeHighRsp s) (freeHighRip s) s.cpu
    draws := if s.lma then s.draws else s.draws + 2 }

/-- `SYSENTER` (40_sysenter.md rule R80), its checks in the order of 70_reset_and_hazards.md rule R144. -/
def execSysenter (s : State) : Result :=
  requireSep s <|
  requireCanonicalMsrs s <|
  if entryCheckFails s.cpu then raise (.gp 0)
  else requireAgreement (invokedReading s) (literalReading s) (.next (enterKernel s))

/-- `LOCK SYSENTER`: `raise UD`, in every mode and before any `#GP(0)` (60_exceptions.md rules R122, R124). -/
def execLockSysenter (s : State) : Result :=
  requireSep s (raise .ud)

end Sys2Proof.Machine
end

