-- ==== Sys2Proof/Syntax.lean ====
section
/-! DEFINITION. The instructions: one constructor per row of the opcode table (30_encoding.md rule R69). -/

namespace Sys2Proof

/-- The two rows of the opcode table. Both are of format `ZO`: no operand, no field (30_encoding.md rules R60, R66). -/
inductive Instr where
  /-- `SYSENTER`, bytes `0F 34` (rule R61; meaning 40_sysenter.md rule R80) -/
  | sysenter
  /-- `LOCK SYSENTER`, bytes `F0 0F 34` (rule R63; meaning 60_exceptions.md rule R122) -/
  | lockSysenter
  deriving DecidableEq, Repr

end Sys2Proof
end

