-- ==== Sys2Proof/Machine/Dispatch.lean ====
section
/-! DEFINITION. One arm per row of the opcode table (30_encoding.md rule R69). -/

namespace Sys2Proof.Machine

open Host

def exec (i : Instr) (s : State) : Host.Outcome State Fault Refusal :=
  match i with
  | .sysenter => Sys2Proof.Machine.execSysenter s
  | .lockSysenter => Sys2Proof.Machine.execLockSysenter s

end Sys2Proof.Machine
end

