-- ==== Sys2Proof/Decode.lean ====
section
/-! DEFINITION. The decoder, total on any bytes (30_encoding.md rule R68), and the encoder (rules R61, R63). -/

namespace Sys2Proof

/-- What the decoder answers on the bytes at the fetch address (30_encoding.md rules R64, R65, R68). -/
inductive Decoded where
  /-- an instruction of the opcode table, and the bytes after it -/
  | instr (i : Instr) (rest : List Byte)
  /-- the bytes begin a row of the opcode table, and the next one, which is needed to tell, is absent (20_memory.md rule
  R43) -/
  | needsByte
  /-- a prefix other than LOCK stands before `0F 34` (rule R64) -/
  | prefixNotInScope
  /-- no row of the opcode table (rule R68) -/
  | notInScope
  deriving DecidableEq, Repr

/-- The first opcode byte (30_encoding.md rule R61). -/
def escapeByte : Byte := 0x0F

/-- The second opcode byte (30_encoding.md rule R61). -/
def sysenterByte : Byte := 0x34

/-- The LOCK prefix (30_encoding.md rule R63). PRESUMED (GK1), notes/assumptions/17.md. -/
def lockByte : Byte := 0xF0

/-- The bytes classed as a prefix other than LOCK: operand size, address size, the six segment overrides, the two
repeats and REX (30_encoding.md rule R64). PRESUMED, notes/assumptions/18.md; it decides only which refusal is answered. -/
def isOtherPrefix (b : Byte) : Bool :=
  b ∈ [0x66, 0x67, 0x2E, 0x36, 0x3E, 0x26, 0x64, 0x65, 0xF2, 0xF3] || b.extractLsb' 4 4 == 0x4

/-- After the byte 0FH: the answer `found` if 34H follows (30_encoding.md rule R65). -/
def decodeAfterEscape (found : List Byte → Decoded) : List Byte → Decoded
  | [] => .needsByte
  | b :: rest => if b = sysenterByte then found rest else .notInScope

/-- After a run of prefixes that begins no row, and the byte 0FH; `other` says that one of the prefixes is not LOCK. -/
def decodePrefixedEscape (other : Bool) : List Byte → Decoded
  | [] => .notInScope
  | b :: _ => if other && b == sysenterByte then .prefixNotInScope else .notInScope

/-- After a run of two or more prefixes, or one prefix that is not LOCK; `other` says that one of them is not LOCK. No byte
is needed any more: the bytes match no row whatever follows (30_encoding.md rule R68), and what follows, as far as it is
mapped, only tells which refusal it is (rule R64). -/
def decodePrefixed (other : Bool) : List Byte → Decoded
  | [] => .notInScope
  | b :: rest =>
    if b = escapeByte then decodePrefixedEscape other rest
    else if b = lockByte then decodePrefixed other rest
    else if isOtherPrefix b then decodePrefixed true rest
    else .notInScope

/-- After one LOCK prefix (30_encoding.md rules R63, R65). -/
def decodeLocked : List Byte → Decoded
  | [] => .needsByte
  | b :: rest =>
    if b = escapeByte then decodeAfterEscape (.instr .lockSysenter) rest
    else if b = lockByte then decodePrefixed false rest
    else if isOtherPrefix b then decodePrefixed true rest
    else .notInScope

/-- The decoder. It takes no mode: "No mode bit changes how the two bytes decode" (30_encoding.md rule R62). -/
def decode : List Byte → Decoded
  | [] => .needsByte
  | b :: rest =>
    if b = escapeByte then decodeAfterEscape (.instr .sysenter) rest
    else if b = lockByte then decodeLocked rest
    else if isOtherPrefix b then decodePrefixed true rest
    else .notInScope

/-- The bytes of an instruction, lowest address first (30_encoding.md rules R61, R63; 20_memory.md rule R44). -/
def encode : Instr → List Byte
  | .sysenter => [escapeByte, sysenterByte]
  | .lockSysenter => [lockByte, escapeByte, sysenterByte]

/-- The length of an instruction in bytes (30_encoding.md rule R65). -/
def Instr.length : Instr → Nat
  | .sysenter => 2
  | .lockSysenter => 3

/-- The most bytes an instruction of the opcode table has (30_encoding.md rule R65). -/
def longestInstr : Nat := 3

/-- The n bytes of a number of the opcode table, lowest address first: "byte 0 is the high half of the number"
(30_encoding.md rule R61). DEDUCED, notes/assumptions/25.md. -/
def tableBytes (w : Nat) : Nat → List Byte
  | 0 => []
  | n + 1 => BitVec.ofNat 8 (w >>> (8 * n)) :: tableBytes w n

/-- The bytes stored for a word of the opcode table: its own, then bytes of zeros up to the longest instruction. -/
def instructionBytes (nbits w : Nat) : List Byte :=
  tableBytes w (nbits / 8) ++ List.replicate (longestInstr - nbits / 8) 0

/-- The instruction the decoder reads from a word numbered as the opcode table numbers it. -/
def decodeTableWord (nbits w : Nat) : Option Instr :=
  match decode (instructionBytes nbits w) with
  | .instr i _ => some i
  | .needsByte => none
  | .prefixNotInScope => none
  | .notInScope => none

end Sys2Proof
end

