-- ==== Sys2Proof/Machine/Fetch.lean ====
section
/-! DEFINITION. The instruction fetch (20_memory.md rule R43). -/

namespace Sys2Proof.Machine

/-- The fetch address: `RIP` in 64-bit mode, `(CS.Base + zext_64(EIP)) mod 2^32` in every other (20_memory.md rule R43).
No limit check and no paging: UNVERIFIED, notes/assumptions/20.md. -/
def State.fetchAddress (s : State) : Word :=
  match s.mode with
  | .bit64 => s.cpu.rip
  | .realAddress => zext64 (low32 (s.cpu.cs.base + zext64 (low32 s.cpu.rip)))
  | .protectedProper => zext64 (low32 (s.cpu.cs.base + zext64 (low32 s.cpu.rip)))
  | .virtual8086 => zext64 (low32 (s.cpu.cs.base + zext64 (low32 s.cpu.rip)))
  | .compatibility => zext64 (low32 (s.cpu.cs.base + zext64 (low32 s.cpu.rip)))

/-- The mapped bytes from an address on, at most `n`, up to the first that is absent (20_memory.md rule R43). -/
def bytesFrom (m : Memory) : Nat → Word → List Byte
  | 0, _ => []
  | n + 1, a =>
    match Memory.read m a with
    | none => []
    | some b => b :: bytesFrom m n (a + 1)

/-- How many mapped bytes the decoder may look at: three, for the two rows of the opcode table (20_memory.md rule R43), and
as many more as bytes are mapped, so that no run of prefixes is cut off (30_encoding.md rule R64). -/
def fetchWindow (m : Memory) : Nat := m.length + longestInstr

/-- The bytes the decoder looks at: those mapped from the fetch address on. -/
def State.fetchBytes (s : State) : List Byte := bytesFrom s.mem (fetchWindow s.mem) s.fetchAddress

/-- Fetch and decode: checks (1) and (2) of 70_reset_and_hazards.md rule R144. -/
def State.fetchDecode (s : State) : Except Refusal Instr :=
  match decode s.fetchBytes with
  | .instr i _ => .ok i
  | .needsByte => .error .fetchUnmapped
  | .prefixNotInScope => .error .prefixNotInScope
  | .notInScope => .error .notInScope

/-- The state with bytes mapped where the next instruction is fetched: the loading of a program by the host
(70_reset_and_hazards.md rule R145; notes/assumptions/26.md). -/
def State.placeBytes (s : State) (bs : List Byte) : State :=
  { s with mem := Memory.writeBytes s.mem s.fetchAddress bs }

end Sys2Proof.Machine
end

