-- ==== Sys2Proof/Machine/Step.lean ====
section
/-! DEFINITION. One step: fetch, decode, execute (70_reset_and_hazards.md rule R144). -/

namespace Sys2Proof.Machine

/-- One step of the logical processor (70_reset_and_hazards.md rule R144). -/
def step (s : State) : Host.Outcome State Fault Refusal :=
  match s.fetchDecode with
  | .ok i => exec i s
  | .error r => .refused r

/-- The state with an instruction of the opcode table stored where the next step fetches. -/
def State.withFetchWord (s : State) (nbits w : Nat) : State :=
  s.placeBytes (instructionBytes nbits w)

end Sys2Proof.Machine
end

