-- ==== Sys2Proof/Machine/Cpuid.lean ====
section
/-! DEFINITION. The test for the instruction that software makes with CPUID (41_related_instructions.md rules R104, R105).
It sets no state: its outcome is the parameter `SEP_PRESENT` (00_scope.md rule R2). -/

namespace Sys2Proof.Machine

/-- What CPUID reports of a processor, as far as the test reads it (41_related_instructions.md rule R104). -/
structure CpuidReport where
  sepBit : Bool
  family : Nat
  model : Nat
  stepping : Nat
  deriving DecidableEq, Repr

/-- The source's example test, repaired: `SEP_bit and not (Family = 6 and Model < 3 and Stepping < 3)`
(41_related_instructions.md rule R104). -/
def cpuidTest (r : CpuidReport) : Bool :=
  r.sepBit && !(r.family == 6 && decide (r.model < 3) && decide (r.stepping < 3))

/-- A Pentium Pro: family 6, model 1 (41_related_instructions.md rule R105). -/
def isPentiumPro (r : CpuidReport) : Bool := r.family == 6 && r.model == 1

/-- `SEP_PRESENT` as the test and the prose together give it: the test, and no Pentium Pro whatever its stepping
(41_related_instructions.md rule R105; U5). UNVERIFIED (90_conflicts.md C10), notes/assumptions/28.md: the parameter of
`Config` stays free, nothing sets it from this. -/
def sepPresentOf (r : CpuidReport) : Bool := cpuidTest r && !isPentiumPro r

end Sys2Proof.Machine
end

