-- ==== Sys2Proof/Machine/Msr.lean ====
section
/-! DEFINITION. The MSR address space (20_memory.md rule R42) and the host's primitive `WriteMSR`
(41_related_instructions.md rule R106). -/

namespace Sys2Proof.Machine

/-- The three MSRs that have an address in the spec (20_memory.md rule R51). -/
inductive SysenterMsr where
  | cs
  | esp
  | eip
  deriving DecidableEq, Repr

/-- The MSR addresses: 174H, 175H, 176H (10_state.md rules R20 to R22). -/
def msrAddress : SysenterMsr → Nat
  | .cs => 0x174
  | .esp => 0x175
  | .eip => 0x176

/-- The MSR at an address, none where the spec gives none (20_memory.md rule R42). -/
def msrAt (a : Nat) : Option SysenterMsr :=
  if a = 0x174 then some .cs
  else if a = 0x175 then some .esp
  else if a = 0x176 then some .eip
  else none

/-- `MSR[a]` (00_scope.md section 5.2). -/
def readMsr (m : SysenterMsr) (c : Cpu) : Word :=
  match m with
  | .cs => c.sysenterCs
  | .esp => c.sysenterEsp
  | .eip => c.sysenterEip

/-- `MSR[a] <- v`. -/
def setMsr (m : SysenterMsr) (v : Word) (c : Cpu) : Cpu :=
  match m with
  | .cs => { c with sysenterCs := v }
  | .esp => { c with sysenterEsp := v }
  | .eip => { c with sysenterEip := v }

/-- The values `WriteMSR` takes: any for `IA32_SYSENTER_CS`, a canonical one for the two address MSRs
(41_related_instructions.md rule R106). -/
def msrAccepts (cfg : Config) (m : SysenterMsr) (v : Word) : Bool :=
  match m with
  | .cs => true
  | .esp => canonical cfg.laWidth v
  | .eip => canonical cfg.laWidth v

/-- `WriteMSR(a, v)`, which the host may apply between runs; it is no instruction (41_related_instructions.md rule
R106, 70_reset_and_hazards.md rule R145). Safe, notes/assumptions/27.md. -/
def writeMsr (m : SysenterMsr) (v : Word) (s : State) : Result :=
  if msrAccepts s.cfg m v then .next { s with cpu := setMsr m v s.cpu } else .refused .noncanonicalMsrWrite

end Sys2Proof.Machine
end

