-- ==== Sys2Proof/WellFormed.lean ====
section
/-! DEFINITION. The checks on instructions and on the parameters. -/

namespace Sys2Proof

/-- An instruction is well-formed. Neither row has an operand or a field (30_encoding.md rule R66), so there is no
operand value to refuse and every instruction is well-formed. -/
def Instr.wf : Instr → Bool
  | .sysenter => true
  | .lockSysenter => true

/-- The parameters are legal: `1 <= LA_WIDTH <= 64` (00_scope.md rule R4). -/
def Config.wf (c : Config) : Bool :=
  decide (1 ≤ c.laWidth) && decide (c.laWidth ≤ 64)

end Sys2Proof
end

