-- ==== Sys2Proof/Safety.lean ====
section
/-! DEFINITION. What counts as a safe step and a safe run, in the terms the statements use. -/

namespace Sys2Proof.Machine

/-- The conditions under which `0F 34` completes: the premises of 40_sysenter.md rule R80 and the check of rule R81.
They are conditions on the state alone. -/
structure State.Ready (s : State) : Prop where
  /-- `SEP_PRESENT` (00_scope.md rule R2) -/
  sep : s.cfg.sepPresent = true
  /-- `P_canon` (10_state.md rule R23) -/
  canon : canonicalMsrs s.cfg s.cpu = true
  /-- not in real-address mode (40_sysenter.md rule R81) -/
  notReal : s.cpu.cr0.PE = true
  /-- no null selector (40_sysenter.md rule R81) -/
  notNull : nullCheckField s.cpu.sysenterCs ≠ 0
  /-- the two readings of the first CET predicate agree (40_sysenter.md rule R85) -/
  agree : invokedReading s = literalReading s

/-- The states the hardware can be in, as far as the spec says which: no other has to be considered.
The two clauses on `IA32_EFER.LMA` are 10_state.md rule R30 (GK19). PRESUMED, notes/assumptions/36.md. -/
structure State.Legal (s : State) : Prop where
  /-- the instruction memory has its canonical form -/
  mem : Memory.wf s.mem = true
  /-- `1 <= LA_WIDTH <= 64` (00_scope.md rule R4) -/
  cfg : s.cfg.wf = true
  /-- `P_canon`, which WRMSR keeps (10_state.md rule R23) -/
  canon : canonicalMsrs s.cfg s.cpu = true
  /-- `IA32_EFER.LMA` is constantly 0 where `INTEL64_PRESENT` is false (10_state.md rule R24) -/
  noIa32e : s.cfg.intel64Present = false → s.cpu.efer.LMA = false
  /-- `IA32_EFER.LMA = 1` only with `CR0.PE = 1` -/
  lmaProtected : s.cpu.efer.LMA = true → s.cpu.cr0.PE = true
  /-- `IA32_EFER.LMA = 1` only with `RFLAGS.VM = 0` -/
  lmaNotVm : s.cpu.efer.LMA = true → s.cpu.rflags.VM = false
  /-- `CS.D = 0` is "Required if CS.L = 1" (40_sysenter.md rule R84) -/
  csSize : s.cpu.cs.l = true → s.cpu.cs.d = false

/-- What every completed SYSENTER leaves: the context the handler starts in (95_test_vectors.md part 4;
40_sysenter.md rules R82 to R84, R86, R89, R94). -/
structure State.InKernelEntry (s : State) : Prop where
  level : s.cpu.cpl = 0
  vm : s.cpu.rflags.VM = false
  interruptsMasked : s.cpu.rflags.IF = false
  protectedMode : s.cpu.cr0.PE = true
  csSelector : s.cpu.cs.selector = selectorField s.cpu.sysenterCs &&& 0xFFFC
  csNotNull : s.cpu.cs.selector ≠ 0
  csRpl : rpl s.cpu.cs.selector = 0
  ssRpl : rpl s.cpu.ss.selector = 0
  ssSelector : s.cpu.ss.selector = s.cpu.cs.selector + 8
  levels : s.cpu.cs.dpl = 0 ∧ s.cpu.ss.dpl = 0
  codeSize : s.cpu.cs.l = s.lma ∧ s.cpu.cs.d = !s.lma
  pointers64 : s.lma = true → s.cpu.rip = s.cpu.sysenterEip ∧ s.cpu.rsp = s.cpu.sysenterEsp
  pointers32 : low32 s.cpu.rip = low32 s.cpu.sysenterEip ∧ low32 s.cpu.rsp = low32 s.cpu.sysenterEsp

/-- What no step of the model changes: the parameters, the instruction memory, and every register SYSENTER does not
write (40_sysenter.md rule R90). -/
structure State.SameBackground (s t : State) : Prop where
  cfg : t.cfg = s.cfg
  mem : t.mem = s.mem
  gprs : t.cpu.gprs = s.cpu.gprs
  otherFlags : t.cpu.rflags.rest = s.cpu.rflags.rest
  dataSegments : t.cpu.ds = s.cpu.ds ∧ t.cpu.es = s.cpu.es ∧ t.cpu.fs = s.cpu.fs ∧ t.cpu.gs = s.cpu.gs
  tables : t.cpu.gdtr = s.cpu.gdtr ∧ t.cpu.idtr = s.cpu.idtr ∧ t.cpu.ldtr = s.cpu.ldtr
  controls : t.cpu.cr0 = s.cpu.cr0 ∧ t.cpu.cr4 = s.cpu.cr4 ∧ t.cpu.efer = s.cpu.efer
  msrs : t.cpu.sysenterCs = s.cpu.sysenterCs ∧ t.cpu.sysenterEsp = s.cpu.sysenterEsp ∧
    t.cpu.sysenterEip = s.cpu.sysenterEip
  userCet : t.cpu.uCet = s.cpu.uCet
  otherSCet : t.cpu.sCet.SH_STK_EN = s.cpu.sCet.SH_STK_EN ∧ t.cpu.sCet.ENDBR_EN = s.cpu.sCet.ENDBR_EN ∧
    t.cpu.sCet.rest = s.cpu.sCet.rest

/-- The CET predicates are false, as 40_sysenter.md rule R97 puts it: at every level, on every state that differs from
this one in nothing but what SYSENTER writes. So it is on every processor without CET (10_state.md rule R28). -/
def State.CetPredicatesFalse (s : State) : Prop :=
  ∀ t : State, s.SameBackground t → ∀ p : Privilege,
    shadowStackEnabled t.cfg t.cpu p = false ∧ endbranchEnabled t.cfg t.cpu p = false

/-- The processors and states whose SYSENTER does not clear `SSP`: no CET; or both predicates false, whatever their
definitions; or the customary definitions (notes/assumptions/8.md) with shadow stacks switched off for level 0. -/
def State.KernelShadowStackOff (s : State) : Prop :=
  s.cfg.cetPresent = false ∨ s.CetPredicatesFalse ∨
    (s.cfg.cetRule = .customary ∧ (s.cpu.cr4.CET && s.cpu.sCet.SH_STK_EN) = false)

/-- The state `u` repeats the state `t`: the very same in IA-32e mode, and outside it the same processor, memory and
parameters up to the `any value` bits, 63:32 of `RIP` and `RSP` (40_sysenter.md rule R97, decision D8). -/
structure State.RepeatOf (u t : State) : Prop where
  same64 : t.lma = true → u = t
  rip : low32 u.cpu.rip = low32 t.cpu.rip
  rsp : low32 u.cpu.rsp = low32 t.cpu.rsp
  rest : { u.cpu with rip := t.cpu.rip, rsp := t.cpu.rsp } = t.cpu
  mem : u.mem = t.mem
  cfg : u.cfg = t.cfg

/-- A run of `n` steps is safe: it neither faults nor is refused (70_reset_and_hazards.md rule R144). -/
def State.RunsSafely (s : State) (n : Nat) : Prop := ∃ t, Sys2Proof.core.run n s = .next t

end Sys2Proof.Machine
end

