-- ==== Sys2Proof/Certificates/Slice0/Obligations.lean ====
section
/-! DEFINITION. The statements for the provers, from the numbered rules of spec/.

A hypothesis `s.Ready` is the spec's own list of conditions under which `0F 34` completes: SEP present, both address MSRs
canonical, not real-address mode, no null selector, the two readings of the first CET predicate agree. -/

open Sys2Proof Sys2Proof.Machine Host

/-! ## Encoding -/

/-- The words of the opcode table, written out from 30_encoding.md rules R61 and R63, decode to their instructions, and
neighbours of them do not (95_test_vectors.md V17).
That F0H is the LOCK byte is general knowledge (notes/assumptions/17.md); the layout of the table's numbers is DEDUCED
(notes/assumptions/25.md); and that `66 0F 34` is refused as prefix_not_in_scope rests on the model's own classing of 66H
as a prefix (notes/assumptions/18.md; V17 gives not_in_scope for a decoder that does not class it so). -/
def Obligations.DecodesTheWordsOfTheTable : Prop :=
  decode [0x0F, 0x34] = .instr .sysenter [] ∧
  decode [0xF0, 0x0F, 0x34] = .instr .lockSysenter [] ∧
  decodeTableWord 16 0x0F34 = some .sysenter ∧
  decodeTableWord 24 0xF00F34 = some .lockSysenter ∧
  decode [0x34, 0x0F] = .notInScope ∧
  decode [0x0F, 0x35] = .notInScope ∧
  decode [0x66, 0x0F, 0x34] = .prefixNotInScope

/-- Decode and encode agree, both ways: the decoder answers a (well-formed) instruction on exactly the byte sequences
that begin with its encoding, and leaves exactly the bytes after it (30_encoding.md rules R61, R63, R65, R68). -/
def Obligations.DecodeAndEncodeAgree : Prop :=
  (∀ (i : Instr) (rest : List Byte), i.wf = true → decode (encode i ++ rest) = .instr i rest) ∧
  (∀ (bs : List Byte) (i : Instr) (rest : List Byte), decode bs = .instr i rest →
    i.wf = true ∧ bs = encode i ++ rest)

/-- Any run of prefixes that holds one other than LOCK, before `0F 34`, is refused as such (30_encoding.md rule R64).
Which bytes are classed as prefixes is the model's (notes/assumptions/18.md). -/
def Obligations.PrefixedSysenterIsRefused : Prop :=
  ∀ (run rest : List Byte), (∀ b ∈ run, b = lockByte ∨ isOtherPrefix b = true) →
    (∃ b ∈ run, isOtherPrefix b = true) →
    decode (run ++ encode .sysenter ++ rest) = .prefixNotInScope

/-! ## Fetch and step -/

/-- A step runs the decoded instruction. No step moves the program counter past the instruction beside what `exec` does
(30_encoding.md rule R65). -/
def Obligations.StepRunsTheDecodedInstruction : Prop :=
  ∀ (s : State) (i : Instr) (rest : List Byte), i.wf = true → decode s.fetchBytes = .instr i rest →
    step s = exec i s

/-- The fetch address: `RIP` in 64-bit mode, `(CS.Base + zext_64(EIP)) mod 2^32` in every other mode (20_memory.md rule
R43).
The formula is the spec's own decision D13 (notes/assumptions/20.md). -/
def Obligations.FetchAddressByMode : Prop :=
  ∀ s : State,
    (s.mode = .bit64 → s.fetchAddress = s.cpu.rip) ∧
    (s.mode ≠ .bit64 →
      s.fetchAddress.toNat = (s.cpu.cs.base.toNat + s.cpu.rip.toNat % 2 ^ 32) % 2 ^ 32)

/-- The two byte sequences of the opcode table, at the fetch address in increasing address order, run their
instructions (20_memory.md rules R43, R44; 30_encoding.md rule R65).
The fetch is the spec's own decision D13, the LOCK byte general knowledge (notes/assumptions/20.md, 17.md). -/
def Obligations.MappedBytesRun : Prop :=
  ∀ s : State,
    (s.mem.read s.fetchAddress = some 0x0F → s.mem.read (s.fetchAddress + 1) = some 0x34 →
      step s = exec .sysenter s) ∧
    (s.mem.read s.fetchAddress = some 0xF0 → s.mem.read (s.fetchAddress + 1) = some 0x0F →
      s.mem.read (s.fetchAddress + 2) = some 0x34 → step s = exec .lockSysenter s)

/-- A byte that is needed and not mapped refuses the step as `fetch_unmapped`, at each of the four places it can be missing
while the bytes before it begin a row of the opcode table, and at no other; bytes of no row, after one LOCK prefix too, refuse it as `not_in_scope`; and for
every other fetch, the decoder's answer says the refusal (20_memory.md rule R43; 30_encoding.md rules R64, R65, R68;
70_reset_and_hazards.md rule R144, checks 1 and 2). What the decoder answers on every byte list is in the encoding
statements above.
The refusals are the spec's own decisions D1, D2 and D13; which bytes are prefixes is the model's (notes/assumptions/18.md,
20.md). -/
def Obligations.FetchAndDecodeRefusals : Prop :=
  ∀ s : State,
    (s.mem.read s.fetchAddress = none → step s = .refused .fetchUnmapped) ∧
    (s.mem.read s.fetchAddress = some 0x0F → s.mem.read (s.fetchAddress + 1) = none →
      step s = .refused .fetchUnmapped) ∧
    (s.mem.read s.fetchAddress = some 0xF0 → s.mem.read (s.fetchAddress + 1) = none →
      step s = .refused .fetchUnmapped) ∧
    (s.mem.read s.fetchAddress = some 0xF0 → s.mem.read (s.fetchAddress + 1) = some 0x0F →
      s.mem.read (s.fetchAddress + 2) = none → step s = .refused .fetchUnmapped) ∧
    (∀ b, s.mem.read s.fetchAddress = some 0x0F → s.mem.read (s.fetchAddress + 1) = some b → b ≠ 0x34 →
      step s = .refused .notInScope) ∧
    (∀ b, s.mem.read s.fetchAddress = some 0xF0 → s.mem.read (s.fetchAddress + 1) = some 0x0F →
      s.mem.read (s.fetchAddress + 2) = some b → b ≠ 0x34 → step s = .refused .notInScope) ∧
    (∀ b, s.mem.read s.fetchAddress = some b → b ≠ 0x0F → b ≠ lockByte → isOtherPrefix b = false →
      step s = .refused .notInScope) ∧
    (∀ b, s.mem.read s.fetchAddress = some 0xF0 → s.mem.read (s.fetchAddress + 1) = some b →
      b ≠ 0x0F → b ≠ lockByte → isOtherPrefix b = false → step s = .refused .notInScope) ∧
    (decode s.fetchBytes = .prefixNotInScope → step s = .refused .prefixNotInScope) ∧
    (decode s.fetchBytes = .notInScope → step s = .refused .notInScope) ∧
    (decode s.fetchBytes = .needsByte → step s = .refused .fetchUnmapped) ∧
    (step s = .refused .fetchUnmapped →
      s.mem.read s.fetchAddress = none ∨
      (s.mem.read s.fetchAddress = some 0x0F ∧ s.mem.read (s.fetchAddress + 1) = none) ∨
      (s.mem.read s.fetchAddress = some 0xF0 ∧ s.mem.read (s.fetchAddress + 1) = none) ∨
      (s.mem.read s.fetchAddress = some 0xF0 ∧ s.mem.read (s.fetchAddress + 1) = some 0x0F ∧
        s.mem.read (s.fetchAddress + 2) = none))

/-- An instruction of the table placed where the next step fetches is what that step runs, from every state.
How a program is loaded is the model's choice (notes/assumptions/26.md). -/
def Obligations.PlacedInstructionRuns : Prop :=
  ∀ s : State,
    step (s.withFetchWord 16 0x0F34) = exec .sysenter (s.withFetchWord 16 0x0F34) ∧
    step (s.withFetchWord 24 0xF00F34) = exec .lockSysenter (s.withFetchWord 24 0xF00F34)

/-- Placing an instruction keeps the canonical form of the memory, everything but the memory, and every byte but the
three stored from the fetch address on.
How a program is loaded is the model's choice (notes/assumptions/26.md). -/
def Obligations.PlacingChangesThreeBytesOnly : Prop :=
  ∀ (s : State) (nbits w : Nat), nbits / 8 ≤ 3 →
    (Memory.wf s.mem = true → Memory.wf (s.withFetchWord nbits w).mem = true) ∧
    (s.withFetchWord nbits w).cpu = s.cpu ∧ (s.withFetchWord nbits w).cfg = s.cfg ∧
    (s.withFetchWord nbits w).draws = s.draws ∧
    ∀ a, a ≠ s.fetchAddress → a ≠ s.fetchAddress + 1 → a ≠ s.fetchAddress + 2 →
      (s.withFetchWord nbits w).mem.read a = s.mem.read a

/-! ## Which outcome -/

/-- The outcome of SYSENTER in every case, its checks in the order of 70_reset_and_hazards.md rule R144 (checks 3 and 5
to 8).
The order and the refusals are the spec's own decisions D9, D11, D20 and D23 (notes/assumptions/31.md). -/
def Obligations.SysenterOutcomeInOrder : Prop :=
  ∀ s : State,
    if s.cfg.sepPresent = false then exec .sysenter s = .refused .sepAbsent
    else if canonicalMsrs s.cfg s.cpu = false then exec .sysenter s = .refused .noncanonicalMsr
    else if s.cpu.cr0.PE = false ∨ s.cpu.sysenterCs &&& 0xFFFC = 0 then exec .sysenter s = .fault (.gp 0)
    else if invokedReading s ≠ literalReading s then exec .sysenter s = .refused .cetPredicateAmbiguous
    else ∃ t, exec .sysenter s = .next t

/-- The general-protection exception: under the premises of the model, SYSENTER raises it exactly in real-address mode
or on a null selector, whatever the other bits of the MSR hold (40_sysenter.md rule R81). -/
def Obligations.SysenterRaisesGpExactlyWhen : Prop :=
  ∀ s : State, s.cfg.sepPresent = true → canonicalMsrs s.cfg s.cpu = true →
    (exec .sysenter s = .fault (.gp 0) ↔ (s.mode = .realAddress ∨ s.cpu.sysenterCs &&& 0xFFFC = 0)) ∧
    (exec .sysenter s = .fault (.gp 0) ↔
      (s.cpu.cr0.PE = false ∨ ∀ i, 2 ≤ i → i < 16 → s.cpu.sysenterCs.getLsbD i = false))

/-- In every mode but real-address mode, a null selector in `IA32_SYSENTER_CS` raises `#GP(0)`, under the premises of the
model (60_exceptions.md rule R120). The condition is evaluated on the start state. -/
def Obligations.NullSelectorRaisesGp : Prop :=
  ∀ s : State, s.cfg.sepPresent = true → canonicalMsrs s.cfg s.cpu = true →
    (s.mode = .protectedProper ∨ s.mode = .virtual8086 ∨ s.mode = .compatibility ∨ s.mode = .bit64) →
    nullCheckField s.cpu.sysenterCs = 0 → exec .sysenter s = .fault (.gp 0)

/-- The LOCK form raises `#UD` in every mode, whatever the MSR holds, and where the instruction is absent it is refused
just as the unprefixed form is (60_exceptions.md rules R122, R124).
That `#UD` is raised where the unprefixed form would raise `#GP(0)`, whatever the MSR holds, is the spec's own decision D6
(notes/assumptions/15.md); that both forms are refused where the instruction is absent is its decision D11
(notes/assumptions/12.md). -/
def Obligations.LockSysenterRaisesUd : Prop :=
  ∀ s : State,
    (s.cfg.sepPresent = true → exec .lockSysenter s = .fault .ud) ∧
    (s.cfg.sepPresent = false →
      exec .lockSysenter s = .refused .sepAbsent ∧ exec .sysenter s = .refused .sepAbsent)

/-- A step that faults has one of the two causes of 60_exceptions.md rule R123, and the bytes of that instruction stand
at the fetch address (30_encoding.md rules R63, R65; 20_memory.md rule R43).
It names the fault of each byte sequence: that it is `#UD` on the LOCK form even where the state would make the unprefixed
form raise `#GP(0)` is the spec's own decision D6 (notes/assumptions/15.md), and that F0H is the LOCK byte is general
knowledge (notes/assumptions/17.md). -/
def Obligations.FaultsHaveTheTwoCauses : Prop :=
  ∀ (s : State) (f : Fault), step s = .fault f →
    (f = .ud ∧ s.mem.read s.fetchAddress = some 0xF0 ∧ s.mem.read (s.fetchAddress + 1) = some 0x0F ∧
      s.mem.read (s.fetchAddress + 2) = some 0x34) ∨
    (f = .gp 0 ∧ s.mem.read s.fetchAddress = some 0x0F ∧ s.mem.read (s.fetchAddress + 1) = some 0x34 ∧
      (s.cpu.cr0.PE = false ∨ nullCheckField s.cpu.sysenterCs = 0))

/-- A step completes exactly where the bytes `0F 34` stand at the fetch address and the state is ready
(70_reset_and_hazards.md rule R144): no other bytes and no other state give a next state.
The premises are the spec's own decisions (notes/assumptions/31.md). -/
def Obligations.StepCompletesExactlyWhen : Prop :=
  ∀ s : State, (∃ t, step s = .next t) ↔
    (s.Ready ∧ s.mem.read s.fetchAddress = some 0x0F ∧ s.mem.read (s.fetchAddress + 1) = some 0x34)

/-! ## What SYSENTER does -/

/-- In IA-32e mode: all 64 bits of both address MSRs, the 64-bit flat code segment, the stack segment just above, level
0, both flags clear; the mode after is 64-bit mode, and the next fetch is at the entry point (40_sysenter.md rules R80,
R83).
That the stack selector is kept to 16 bits is the spec's own decision D7 (notes/assumptions/13.md). -/
def Obligations.SysenterInIa32eMode : Prop :=
  ∀ s : State, s.Ready → s.lma = true → ∃ t, exec .sysenter s = .next t ∧
    t.cpu.rsp = s.cpu.sysenterEsp ∧ t.cpu.rip = s.cpu.sysenterEip ∧
    t.cpu.cs = { selector := selectorField s.cpu.sysenterCs &&& 0xFFFC, base := 0, limit := 0xFFFFF, type := 11,
                 s := true, dpl := 0, p := true, l := true, d := false, g := true } ∧
    t.cpu.ss = { selector := (selectorField s.cpu.sysenterCs &&& 0xFFFC) + 8, base := 0, limit := 0xFFFFF, type := 3,
                 s := true, dpl := 0, p := true, b := true, g := true } ∧
    t.cpu.cpl = 0 ∧ t.cpu.rflags.VM = false ∧ t.cpu.rflags.IF = false ∧
    t.mode = .bit64 ∧ t.fetchAddress = s.cpu.sysenterEip

/-- Outside IA-32e mode: the low halves of both address MSRs, the 32-bit flat code segment, the rest as in IA-32e mode;
the mode after is protected mode proper, from virtual-8086 mode too, and the next fetch is at the low half of the entry
point. Nothing is said of the high halves, which are free (40_sysenter.md rules R80, R83).
That the stack selector is kept to 16 bits is the spec's own decision D7 (notes/assumptions/13.md). -/
def Obligations.SysenterOutsideIa32eMode : Prop :=
  ∀ s : State, s.Ready → s.lma = false → ∃ t, exec .sysenter s = .next t ∧
    low32 t.cpu.rsp = low32 s.cpu.sysenterEsp ∧ low32 t.cpu.rip = low32 s.cpu.sysenterEip ∧
    t.cpu.cs = { selector := selectorField s.cpu.sysenterCs &&& 0xFFFC, base := 0, limit := 0xFFFFF, type := 11,
                 s := true, dpl := 0, p := true, l := false, d := true, g := true } ∧
    t.cpu.ss = { selector := (selectorField s.cpu.sysenterCs &&& 0xFFFC) + 8, base := 0, limit := 0xFFFFF, type := 3,
                 s := true, dpl := 0, p := true, b := true, g := true } ∧
    t.cpu.cpl = 0 ∧ t.cpu.rflags.VM = false ∧ t.cpu.rflags.IF = false ∧
    t.mode = .protectedProper ∧ t.fetchAddress = zext64 (low32 s.cpu.sysenterEip)

/-- The code segment, as 40_sysenter.md rule R84 writes it: the mask clears bits 1:0 and keeps bits 15:2; `L` and `D`
are chosen on `IA32_EFER.LMA`, whatever `CS.L` the caller had; 11 and the stack segment's 3 are decimal; memory has no
part in it. -/
def Obligations.CodeSegmentAfterSysenter : Prop :=
  ∀ s : State, s.Ready → ∃ t, exec .sysenter s = .next t ∧
    t.cpu.cs = { selector := selectorField s.cpu.sysenterCs &&& 0xFFFC, base := 0, limit := 0xFFFFF, type := 11,
                 s := true, dpl := 0, p := true, l := s.lma, d := !s.lma, g := true } ∧
    t.cpu.cs.type = 0b1011 ∧ t.cpu.ss.type = 0b0011 ∧
    (∀ i, i < 2 → t.cpu.cs.selector.getLsbD i = false) ∧
    (∀ i, 2 ≤ i → i < 16 → t.cpu.cs.selector.getLsbD i = s.cpu.sysenterCs.getLsbD i) ∧
    (∀ m : Memory, ∃ u, exec .sysenter { s with mem := m } = .next u ∧ u.cpu.cs = t.cpu.cs)

/-- The stack segment, as 40_sysenter.md rule R89 writes it, from the new `CS.Selector`; the same in every mode, and
memory has no part in it. That the sum is kept to 16 bits is the spec's own choice (notes/assumptions/13.md). -/
def Obligations.StackSegmentAfterSysenter : Prop :=
  ∀ s : State, s.Ready → ∃ t, exec .sysenter s = .next t ∧
    t.cpu.ss = { selector := (selectorField s.cpu.sysenterCs &&& 0xFFFC) + 8, base := 0, limit := 0xFFFFF, type := 3,
                 s := true, dpl := 0, p := true, b := true, g := true } ∧
    t.cpu.ss.selector = t.cpu.cs.selector + 8 ∧
    (∀ m : Memory, ∃ u, exec .sysenter { s with mem := m } = .next u ∧ u.cpu.ss = t.cpu.ss)

/-- The selector arithmetic of 40_sysenter.md rule R96: the sum is kept to 16 bits, which is the spec's own choice
(decision D7, notes/assumptions/13.md); FFF8H gives 0000H and FFFCH gives
0004H; for every other code selector, 0004H to FFF4H, there is no overflow. -/
def Obligations.SelectorArithmetic : Prop :=
  ∀ s : State, s.Ready → ∃ t, exec .sysenter s = .next t ∧
    t.cpu.cs.selector.toNat % 4 = 0 ∧ 4 ≤ t.cpu.cs.selector.toNat ∧
    t.cpu.ss.selector.toNat = (t.cpu.cs.selector.toNat + 8) % 2 ^ 16 ∧
    (t.cpu.cs.selector = 0xFFF8 → t.cpu.ss.selector = 0x0000) ∧
    (t.cpu.cs.selector = 0xFFFC → t.cpu.ss.selector = 0x0004) ∧
    (t.cpu.cs.selector ≠ 0xFFF8 → t.cpu.cs.selector ≠ 0xFFFC →
      t.cpu.cs.selector.toNat ≤ 0xFFF4 ∧ t.cpu.ss.selector.toNat = t.cpu.cs.selector.toNat + 8)

/-- The flags: `VM` and `IF` are cleared in every mode, no other bit of `RFLAGS` changes, a processor that was in
virtual-8086 mode is in protected mode proper, and the old values are lost: from the same state with any other values of
the two flags, where that is ready too, the next state is the same (40_sysenter.md rule R82).
That the next states agree in bits 63:32 of `RIP` and `RSP` too, outside IA-32e mode, is the model's: both draw the same free
value (notes/assumptions/7.md). -/
def Obligations.FlagsAfterSysenter : Prop :=
  ∀ s : State, s.Ready → ∃ t, exec .sysenter s = .next t ∧
    t.cpu.rflags = { VM := false, IF := false, rest := s.cpu.rflags.rest } ∧
    (s.mode = .virtual8086 → t.mode = .protectedProper) ∧
    (∀ vm ifl : Bool,
      let s' : State := { s with cpu := { s.cpu with rflags := { VM := vm, IF := ifl, rest := s.cpu.rflags.rest } } }
      s'.Ready → exec .sysenter s' = .next t)

/-- The mode afterwards, by the mode at invocation (40_sysenter.md rule R94): in IA-32e mode 64-bit mode, else protected
mode proper with 32-bit code and stack, both at level 0; real-address mode faults; `CR0.PE` and `IA32_EFER` are kept. -/
def Obligations.ModeAfterSysenter : Prop :=
  ∀ s : State,
    (s.cfg.sepPresent = true → canonicalMsrs s.cfg s.cpu = true → s.mode = .realAddress →
      exec .sysenter s = .fault (.gp 0)) ∧
    (s.Ready → ∃ t, exec .sysenter s = .next t ∧ t.cpu.cpl = 0 ∧ t.cpu.cr0.PE = s.cpu.cr0.PE ∧
      t.cpu.efer.LMA = s.cpu.efer.LMA ∧
      (s.mode = .compatibility ∨ s.mode = .bit64 → t.mode = .bit64 ∧ t.cpu.cs.l = true) ∧
      (s.mode = .protectedProper ∨ s.mode = .virtual8086 →
        t.mode = .protectedProper ∧ t.cpu.cs.l = false ∧ t.cpu.cs.d = true ∧ t.cpu.ss.b = true))

/-- The frame of SYSENTER (40_sysenter.md rule R90, the spec's own decision D16, notes/assumptions/23.md): everything but
`RIP`, `RSP`, `RFLAGS.VM`, `RFLAGS.IF`, `CS`, `SS`, `CPL`, `SSP`, `IA32_PL3_SSP` and the two named fields of `IA32_S_CET` is
unchanged, every byte of memory included (the instruction stores nothing); and with CET absent, so are the last four. -/
def Obligations.SysenterFrame : Prop :=
  ∀ s t : State, exec .sysenter s = .next t →
    t.cfg = s.cfg ∧ (∀ a, t.mem.read a = s.mem.read a) ∧
    t.cpu.gprs = s.cpu.gprs ∧ t.cpu.rflags.rest = s.cpu.rflags.rest ∧
    t.cpu.ds = s.cpu.ds ∧ t.cpu.es = s.cpu.es ∧ t.cpu.fs = s.cpu.fs ∧ t.cpu.gs = s.cpu.gs ∧
    t.cpu.gdtr = s.cpu.gdtr ∧ t.cpu.idtr = s.cpu.idtr ∧ t.cpu.ldtr = s.cpu.ldtr ∧
    t.cpu.cr0 = s.cpu.cr0 ∧ t.cpu.cr4 = s.cpu.cr4 ∧ t.cpu.efer = s.cpu.efer ∧
    (∀ m, readMsr m t.cpu = readMsr m s.cpu) ∧ t.cpu.uCet = s.cpu.uCet ∧
    t.cpu.sCet = { s.cpu.sCet with TRACKER := t.cpu.sCet.TRACKER, SUPPRESS := t.cpu.sCet.SUPPRESS } ∧
    (s.cfg.cetPresent = false →
      t.cpu.ssp = s.cpu.ssp ∧ t.cpu.pl3Ssp = s.cpu.pl3Ssp ∧ t.cpu.sCet = s.cpu.sCet)

/-- No privilege check (40_sysenter.md rule R92), whatever level the caller is given. The faults are the same. With CET
absent the whole outcome is the same. With CET, whatever the definitions of its predicates: where both states are ready and
the first predicate, the one use of the caller's level, is the same at both levels, both complete in the same next state.
With the customary definitions (notes/assumptions/8.md), where both are ready, the next states differ in `IA32_PL3_SSP`
at most.
That the next states agree in bits 63:32 of `RIP` and `RSP` too, outside IA-32e mode, is the model's: both draw the same free
value (notes/assumptions/7.md). -/
def Obligations.NoPrivilegeCheck : Prop :=
  ∀ (s : State) (p : Privilege),
    let s' : State := { s with cpu := { s.cpu with cpl := p } }
    (∀ f, exec .sysenter s' = .fault f ↔ exec .sysenter s = .fault f) ∧
    (s.cfg.cetPresent = false → exec .sysenter s' = exec .sysenter s) ∧
    (s.Ready → s'.Ready → shadowStackEnabled s.cfg s'.cpu p = shadowStackEnabled s.cfg s.cpu s.cpu.cpl →
      ∃ t, exec .sysenter s = .next t ∧ exec .sysenter s' = .next t) ∧
    (s.cfg.cetRule = .customary → s.Ready → s'.Ready →
      ∃ t t', exec .sysenter s = .next t ∧ exec .sysenter s' = .next t' ∧
        t' = { t with cpu := { t.cpu with pl3Ssp := t'.cpu.pl3Ssp } })

/-- Only bits 15:2 of `IA32_SYSENTER_CS` count: with CET absent, another value of the MSR with the same bits 15:2 gives the
same next state but for the MSR itself, which is kept as it was (10_state.md rule R20; 40_sysenter.md rules R81, R84).
That bits 63:16 are stored is the spec's own decision D17 (notes/assumptions/29.md); that the next states agree in bits 63:32
of `RIP` and `RSP` too, outside IA-32e mode, is the model's (notes/assumptions/7.md). -/
def Obligations.OnlyBits15To2OfTheSelectorMsrCount : Prop :=
  ∀ (s t : State) (v : Word), s.cfg.cetPresent = false →
    (∀ i, 2 ≤ i → i < 16 → v.getLsbD i = s.cpu.sysenterCs.getLsbD i) → exec .sysenter s = .next t →
    exec .sysenter { s with cpu := { s.cpu with sysenterCs := v } } =
      .next { t with cpu := { t.cpu with sysenterCs := v } }

/-- SYSENTER reads no memory: with any other memory it answers the same processor state, or the same stop
(20_memory.md rules R40, R41).
That the next states agree in bits 63:32 of `RIP` and `RSP` too, outside IA-32e mode, is the model's (notes/assumptions/7.md). -/
def Obligations.SysenterReadsNoMemory : Prop :=
  ∀ (s : State) (m : Memory),
    (∀ t, exec .sysenter s = .next t → exec .sysenter { s with mem := m } = .next { t with mem := m }) ∧
    (∀ f, exec .sysenter s = .fault f → exec .sysenter { s with mem := m } = .fault f) ∧
    (∀ r, exec .sysenter s = .refused r → exec .sysenter { s with mem := m } = .refused r)

/-! ## Control-flow Enforcement Technology -/

/-- `LA_adjust` and canonical addresses, bit by bit (10_state.md rule R29).
The definition of canonical is general knowledge (GK8, notes/assumptions/11.md). -/
def Obligations.LaAdjustBits : Prop :=
  ∀ (n : Nat) (v : Word), 1 ≤ n → n ≤ 64 →
    (∀ i, i < n → (laAdjust n v).getLsbD i = v.getLsbD i) ∧
    (∀ i, n ≤ i → i < 64 → (laAdjust n v).getLsbD i = v.getLsbD (n - 1)) ∧
    (canonical n v = true ↔ laAdjust n v = v) ∧
    (canonical n v = true ↔ ∀ i, n ≤ i → i < 64 → v.getLsbD i = v.getLsbD (n - 1)) ∧
    (n = 64 → canonical n v = true ∧ laAdjust n v = v)

/-- Saving the shadow-stack pointer (40_sysenter.md rule R85): where the two readings of the predicate agree, the caller's
`SSP` goes to `IA32_PL3_SSP` if shadow stacks are enabled at the caller's level on the start state, adjusted in IA-32e
mode and whole otherwise; where they differ, the step is refused.
The reading is the spec's own decision D9, the whole copy D18 (notes/assumptions/9.md, 14.md). -/
def Obligations.SavesTheCallersShadowStackPointer : Prop :=
  ∀ s : State,
    (s.Ready → ∃ t, exec .sysenter s = .next t ∧
      (shadowStackEnabled s.cfg s.cpu s.cpu.cpl = true →
        t.cpu.pl3Ssp = if s.lma then laAdjust s.cfg.laWidth s.cpu.ssp else s.cpu.ssp) ∧
      (shadowStackEnabled s.cfg s.cpu s.cpu.cpl = false → t.cpu.pl3Ssp = s.cpu.pl3Ssp)) ∧
    (s.cfg.sepPresent = true → canonicalMsrs s.cfg s.cpu = true → s.cpu.cr0.PE = true →
      nullCheckField s.cpu.sysenterCs ≠ 0 → invokedReading s ≠ literalReading s →
      exec .sysenter s = .refused .cetPredicateAmbiguous)

/-- Clearing the shadow-stack pointer and arming the tracker (40_sysenter.md rules R87, R88), each predicate with level 0
on the state the earlier lines left: that state is the final one (`CPL = 0`, `RFLAGS.VM = 0`) with `SS`, `IA32_S_CET` (and,
for the first, `SSP`) still the caller's. -/
def Obligations.ClearsSspAndArmsTheTracker : Prop :=
  ∀ s : State, s.Ready → ∃ t, exec .sysenter s = .next t ∧ t.cpu.cpl = 0 ∧ t.cpu.rflags.VM = false ∧
    (let before19 : Cpu := { t.cpu with ss := s.cpu.ss, sCet := s.cpu.sCet, ssp := s.cpu.ssp }
     t.cpu.ssp = if shadowStackEnabled s.cfg before19 0 then 0 else s.cpu.ssp) ∧
    (let before20 : Cpu := { t.cpu with ss := s.cpu.ss, sCet := s.cpu.sCet }
     (endbranchEnabled s.cfg before20 0 = true →
       t.cpu.sCet.TRACKER = .waitForEndbranch ∧ t.cpu.sCet.SUPPRESS = false) ∧
     (endbranchEnabled s.cfg before20 0 = false →
       t.cpu.sCet.TRACKER = s.cpu.sCet.TRACKER ∧ t.cpu.sCet.SUPPRESS = s.cpu.sCet.SUPPRESS))

/-- The CET effects with the customary definitions of 10_state.md rule R28 (the model's choice of them:
notes/assumptions/8.md), in terms of the enable bits alone, for a caller with `RFLAGS.VM = 0`. A ready caller with
`RFLAGS.VM = 1` is in CustomaryCetEffectsFromVirtual8086 below, and in ClearsSspAndArmsTheTracker above.
That all 64 bits of `SSP` go to `IA32_PL3_SSP` outside IA-32e mode is the spec's own decision D18 (notes/assumptions/14.md). -/
def Obligations.CustomaryCetEffects : Prop :=
  ∀ s : State, s.Ready → s.cfg.cetPresent = true → s.cfg.cetRule = .customary → s.cpu.rflags.VM = false →
    ∃ t, exec .sysenter s = .next t ∧
      t.cpu.ssp = (if s.cpu.cr4.CET && s.cpu.sCet.SH_STK_EN then 0 else s.cpu.ssp) ∧
      t.cpu.sCet = (if s.cpu.cr4.CET && s.cpu.sCet.ENDBR_EN
        then { s.cpu.sCet with TRACKER := .waitForEndbranch, SUPPRESS := false } else s.cpu.sCet) ∧
      t.cpu.pl3Ssp =
        (if s.cpu.cr4.CET && (if s.cpu.cpl = 3 then s.cpu.uCet.SH_STK_EN else s.cpu.sCet.SH_STK_EN)
         then (if s.lma then laAdjust s.cfg.laWidth s.cpu.ssp else s.cpu.ssp) else s.cpu.pl3Ssp)

/-- With the customary definitions (notes/assumptions/8.md) the two readings of the first predicate differ only for an
invocation with `RFLAGS.VM = 1` and shadow stacks switched on for the caller's level, and exactly there SYSENTER is refused
as ambiguous (40_sysenter.md rule R85; 95_test_vectors.md V14 (h)). -/
def Obligations.AmbiguousOnlyFromVirtual8086 : Prop :=
  ∀ s : State, s.cfg.sepPresent = true → canonicalMsrs s.cfg s.cpu = true → s.cpu.cr0.PE = true →
    nullCheckField s.cpu.sysenterCs ≠ 0 → s.cfg.cetRule = .customary →
    (exec .sysenter s = .refused .cetPredicateAmbiguous ↔
      (s.cfg.cetPresent = true ∧ s.cpu.rflags.VM = true ∧ s.cpu.cr4.CET = true ∧
        (if s.cpu.cpl = 3 then s.cpu.uCet.SH_STK_EN else s.cpu.sCet.SH_STK_EN) = true))

/-- What is saved to `IA32_PL3_SSP` in IA-32e mode is canonical, whatever `SSP` held (10_state.md rule R26); and a
canonical `SSP` can be recovered from it (40_sysenter.md rule R91). -/
def Obligations.SavedShadowStackPointerIsCanonical : Prop :=
  ∀ s : State, s.Ready → s.cfg.wf = true → s.lma = true → shadowStackEnabled s.cfg s.cpu s.cpu.cpl = true →
    ∃ t, exec .sysenter s = .next t ∧ canonical s.cfg.laWidth t.cpu.pl3Ssp = true ∧
      (canonical s.cfg.laWidth s.cpu.ssp = true → t.cpu.pl3Ssp = s.cpu.ssp)

/-- A second entry from the handler loses the caller's shadow-stack pointer: with the customary predicates
(notes/assumptions/8.md) switched on at both levels in IA-32e mode, the first SYSENTER saves it, the second overwrites it
with 0, and from then on the state repeats (40_sysenter.md rule R97; 95_test_vectors.md V16).
The armed tracker is checked by no step (notes/assumptions/32.md). -/
def Obligations.SecondEntryLosesTheSavedPointer : Prop :=
  ∀ s : State, s.Ready → s.lma = true → s.cfg.cetPresent = true → s.cfg.cetRule = .customary →
    s.cpu.cr4.CET = true → s.cpu.sCet.SH_STK_EN = true → s.cpu.uCet.SH_STK_EN = true →
    s.cpu.rflags.VM = false →
    ∃ t u, exec .sysenter s = .next t ∧ exec .sysenter t = .next u ∧ exec .sysenter u = .next u ∧
      t.cpu.pl3Ssp = laAdjust s.cfg.laWidth s.cpu.ssp ∧ t.cpu.ssp = 0 ∧
      u = { t with cpu := { t.cpu with pl3Ssp := 0 } }

/-! ## The MSRs and the SEP test -/

/-- `WriteMSR`: any value for `IA32_SYSENTER_CS`, a canonical one for the address MSRs, else refused; the other two MSRs
and everything else are kept (41_related_instructions.md rule R106).
The primitive is the spec's own decision D29 (notes/assumptions/27.md). -/
def Obligations.WriteMsrFollowsItsRule : Prop :=
  ∀ (s : State) (v : Word),
    writeMsr .cs v s = .next { s with cpu := { s.cpu with sysenterCs := v } } ∧
    (canonical s.cfg.laWidth v = true →
      writeMsr .esp v s = .next { s with cpu := { s.cpu with sysenterEsp := v } } ∧
      writeMsr .eip v s = .next { s with cpu := { s.cpu with sysenterEip := v } }) ∧
    (canonical s.cfg.laWidth v = false →
      writeMsr .esp v s = .refused .noncanonicalMsrWrite ∧ writeMsr .eip v s = .refused .noncanonicalMsrWrite)

/-- The guarantee of WRMSR (41_related_instructions.md rule R103): writing an MSR keeps the legal states legal, the two
address MSRs canonical among them.
The primitive is the spec's own decision D29 (notes/assumptions/27.md). -/
def Obligations.WriteMsrKeepsLegal : Prop :=
  ∀ (s t : State) (m : SysenterMsr) (v : Word), s.Legal → writeMsr m v s = .next t →
    t.Legal ∧ readMsr m t.cpu = v ∧ ∀ n, n ≠ m → readMsr n t.cpu = readMsr n s.cpu

/-- A Pentium Pro of early stepping fails the source's CPUID test, every Pentium Pro fails the test and the prose taken
together, and the two agree on every other processor (41_related_instructions.md rules R104, R105).
No step reads the test (notes/assumptions/28.md). -/
def Obligations.CpuidTestOnPentiumPro : Prop :=
  ∀ r : CpuidReport,
    (cpuidTest r = true ↔ r.sepBit = true ∧ ¬(r.family = 6 ∧ r.model < 3 ∧ r.stepping < 3)) ∧
    (r.family = 6 → r.model = 1 → sepPresentOf r = false) ∧
    (¬(r.family = 6 ∧ r.model = 1) → sepPresentOf r = cpuidTest r)

/-! ## The whole machine -/

/-- The state after reset is legal. Every value of it is the model's choice (notes/assumptions/2.md,
notes/assumptions/3.md). -/
def Obligations.ResetIsLegal : Prop :=
  State.reset.Legal

/-- Every step keeps the legal states legal: the memory canonical, the parameters in range, the address MSRs canonical,
`IA32_EFER.LMA` only where there is IA-32e mode, only with `CR0.PE = 1` and `RFLAGS.VM = 0`, and `CS.D = 0` wherever
`CS.L = 1`.
The clauses on `LMA` with `PE` and `VM` are general knowledge (notes/assumptions/36.md). -/
def Obligations.EveryStepKeepsLegal : Prop :=
  ∀ s t : State, s.Legal → step s = .next t → t.Legal

/-- The one way in: whatever state a step starts from, legal or not, a step that completes ends at privilege level 0 at
the entry point, on the kernel stack, with interrupts masked, in segments the MSR names, and changes nothing in the
background (40_sysenter.md rules R82 to R84, R86, R89, R90; 60_exceptions.md rule R128).
The frame is the spec's own decision D16, the 16-bit sum D7 (notes/assumptions/23.md, 13.md). -/
def Obligations.EveryStepEntersTheKernel : Prop :=
  ∀ s t : State, step s = .next t → t.InKernelEntry ∧ s.SameBackground t

/-- Over runs of any length: after one or more completed steps the processor is in the kernel entry of the MSRs the run
started with, and the background is that of the start; a run never gains or loses IA-32e mode.
No interrupt comes between steps, and the frame and the 16-bit sum are decisions D16 and D7 (notes/assumptions/22.md, 23.md, 13.md).
After an entry that armed the endbranch tracker, a further step is a claim about the model only (notes/assumptions/32.md). -/
def Obligations.EveryRunStaysInTheKernel : Prop :=
  ∀ (n : Nat) (s t : State), Sys2Proof.core.run (n + 1) s = .next t →
    t.InKernelEntry ∧ s.SameBackground t ∧ t.lma = s.lma ∧
    t.cpu.cs.selector = selectorField s.cpu.sysenterCs &&& 0xFFFC ∧
    low32 t.cpu.rip = low32 s.cpu.sysenterEip ∧ low32 t.cpu.rsp = low32 s.cpu.sysenterEsp

/-- Nothing of the caller is saved (40_sysenter.md rule R91). Let two processors differ in the caller's `RIP`, `RSP`, `CS`,
`SS`, `CPL`, `RFLAGS.VM` and `RFLAGS.IF` in any way. With CET absent, SYSENTER leaves them in the very same state, or stops
in the same way; with the customary predicates (notes/assumptions/8.md), where both are ready and shadow stacks are enabled
for both callers or for neither, it leaves them in the very same state.
Outside IA-32e mode "the very same state" takes in bits 63:32 of `RIP` and `RSP`, any value by decision D8 (the caller's own, for
all the spec says); they agree here by the model's draw counter alone (DESIGN CHOICE, notes/assumptions/7.md), and only their
low halves are claimed of the hardware. -/
def Obligations.NothingOfTheCallerIsSaved : Prop :=
  ∀ (s : State) (rip rsp : Word) (cs : CodeSegment) (ss : DataSegment) (cpl : Privilege) (vm ifl : Bool),
    let s' : State := { s with cpu := { s.cpu with
      rip := rip, rsp := rsp, cs := cs, ss := ss, cpl := cpl,
      rflags := { VM := vm, IF := ifl, rest := s.cpu.rflags.rest } } }
    (s.cfg.cetPresent = false → exec .sysenter s' = exec .sysenter s) ∧
    (s.cfg.cetRule = .customary → s.Ready → s'.Ready →
      shadowStackEnabled s.cfg s'.cpu cpl = shadowStackEnabled s.cfg s.cpu s.cpu.cpl →
      ∃ t, exec .sysenter s = .next t ∧ exec .sysenter s' = .next t)

/-- A second SYSENTER completes again and repeats the state: with CET absent, or with the CET predicates false whatever
their definitions, which is what 40_sysenter.md rule R97 says; and, beyond that rule, with the customary predicates
(notes/assumptions/8.md) and shadow stacks off at level 0, be they on for the caller and be the endbranch tracker on or off.
Where the tracker is on, the first entry arms it, and that the second SYSENTER completes is a claim about the model only: no
step checks the armed tracker (unsafe, notes/assumptions/32.md; 95_test_vectors.md V16).
Outside IA-32e mode the high halves of `RIP` and `RSP` are free values (notes/assumptions/7.md). -/
def Obligations.SysenterRepeatsItself : Prop :=
  ∀ s t : State, s.KernelShadowStackOff → exec .sysenter s = .next t →
    ∃ u, exec .sysenter t = .next u ∧ u.RepeatOf t

/-- A SYSENTER whose entry point is itself a SYSENTER repeats for ever (40_sysenter.md rule R97), in every mode: if one step
completes and `0F 34` is mapped at the next fetch address, a run of any length is safe. The state repeats from the first
entry on where no shadow stack is on at level 0 (CET absent, or its predicates false, among these), and from the second on
with the customary predicates (notes/assumptions/8.md), whatever is switched on.
No interrupt comes between steps (notes/assumptions/22.md). Where the tracker is on, the first entry arms it and every later
step is a claim about the model only: no step checks the armed tracker (unsafe, notes/assumptions/32.md; 95_test_vectors.md
V16). Outside IA-32e mode the high halves of `RIP` and `RSP` are free values (notes/assumptions/7.md). -/
def Obligations.EntryPointLoopNeverEnds : Prop :=
  ∀ s t : State, step s = .next t →
    t.mem.read t.fetchAddress = some 0x0F → t.mem.read (t.fetchAddress + 1) = some 0x34 →
    (s.KernelShadowStackOff ∨ s.cfg.cetRule = .customary → ∀ n, s.RunsSafely n) ∧
    (s.KernelShadowStackOff → ∀ n, ∃ u, Sys2Proof.core.run (n + 1) s = .next u ∧ u.RepeatOf t) ∧
    (s.cfg.cetRule = .customary → ∃ v, Sys2Proof.core.run 2 s = .next v ∧
      ∀ n, ∃ u, Sys2Proof.core.run (n + 2) s = .next u ∧ u.RepeatOf v)

/-! ## Beside the statements above -/

/-- Every byte list that begins with no row's encoding, and is not a prefixed `0F 34`: after any run of prefixes, none
included, another byte than 0FH, or 0FH and another byte than 34H, is not in scope; nor is `0F 34` after two or more LOCK
prefixes; nor a run of prefixes that begins no row, alone or with 0FH after it, whatever may follow. A byte is needed exactly
where the list begins a row and is not yet the whole of it (20_memory.md rule R43; 30_encoding.md rules R65, R68, the refusal
being decision D1). With DecodeAndEncodeAgree and PrefixedSysenterIsRefused this is the decoder's answer on every byte list.
Which bytes are prefixes, and the answer for a repeated LOCK, is the model's (notes/assumptions/17.md, 18.md). -/
def Obligations.BytesOfNoRowAreNotInScope : Prop :=
  (∀ bs : List Byte, decode bs = .needsByte ↔ ∃ i : Instr, bs <+: encode i ∧ bs ≠ encode i) ∧
  ∀ run : List Byte, (∀ b ∈ run, b = lockByte ∨ isOtherPrefix b = true) →
    (∀ b rest, b ≠ escapeByte → b ≠ lockByte → isOtherPrefix b = false →
      decode (run ++ b :: rest) = .notInScope) ∧
    (∀ b rest, b ≠ sysenterByte → decode (run ++ escapeByte :: b :: rest) = .notInScope) ∧
    (∀ rest, 2 ≤ run.length → (∀ b ∈ run, b = lockByte) →
      decode (run ++ encode .sysenter ++ rest) = .notInScope) ∧
    (run ≠ [] → run ≠ [lockByte] → decode run = .notInScope ∧ decode (run ++ [escapeByte]) = .notInScope)

/-- The CET effects with the customary definitions (the model's choice of them: notes/assumptions/8.md) for a ready caller
with `RFLAGS.VM = 1`: `IA32_PL3_SSP` is kept, since a caller with shadow stacks on is refused as ambiguous and is not ready;
the two predicates at level 0 see `RFLAGS.VM = 0` (40_sysenter.md rules R85, R87, R88; decision D9, notes/assumptions/9.md). -/
def Obligations.CustomaryCetEffectsFromVirtual8086 : Prop :=
  ∀ s : State, s.Ready → s.cfg.cetPresent = true → s.cfg.cetRule = .customary → s.cpu.rflags.VM = true →
    ∃ t, exec .sysenter s = .next t ∧ t.cpu.pl3Ssp = s.cpu.pl3Ssp ∧
      t.cpu.ssp = (if s.cpu.cr4.CET && s.cpu.sCet.SH_STK_EN then 0 else s.cpu.ssp) ∧
      t.cpu.sCet = (if s.cpu.cr4.CET && s.cpu.sCet.ENDBR_EN
        then { s.cpu.sCet with TRACKER := .waitForEndbranch, SUPPRESS := false } else s.cpu.sCet)

/-- With the customary predicates (notes/assumptions/8.md), whatever is switched on and in every mode, a SYSENTER that
completes can be followed by a second and a third, and the third repeats the state the second left; where shadow stacks are
on at level 0 that state holds 0 in `SSP` and in `IA32_PL3_SSP`. 40_sysenter.md rule R97 says so of shadow stacks on at the
caller's level and at level 0; the other cases are the model's, by the same assignments (rules R80, R85, R87, R88).
Where the endbranch tracker is on, the first entry arms it, and that the second and third SYSENTER complete is a claim about
the model only: no step checks the armed tracker (unsafe, notes/assumptions/32.md; 95_test_vectors.md V16).
That all 64 bits of `IA32_PL3_SSP` are 0 outside IA-32e mode rests on the spec's own decision D18 (unsafe,
notes/assumptions/14.md).
Outside IA-32e mode the high halves of `RIP` and `RSP` are free values (notes/assumptions/7.md). -/
def Obligations.ThirdEntryRepeatsTheSecond : Prop :=
  ∀ s t : State, s.cfg.cetRule = .customary → exec .sysenter s = .next t →
    ∃ u v, exec .sysenter t = .next u ∧ exec .sysenter u = .next v ∧ v.RepeatOf u ∧
      (s.cfg.cetPresent = true → s.cpu.cr4.CET = true → s.cpu.sCet.SH_STK_EN = true →
        t.cpu.ssp = 0 ∧ u.cpu.ssp = 0 ∧ u.cpu.pl3Ssp = 0)

/-- A prefixed SYSENTER in memory: a run of prefixes that holds one other than LOCK, mapped from the fetch address on and
followed by `0F 34`, refuses the step as `prefix_not_in_scope`, however long the run is (30_encoding.md rule R64, decision
D2). Which bytes are classed as prefixes is the model's (notes/assumptions/18.md). -/
def Obligations.PrefixedSysenterInMemoryIsRefused : Prop :=
  ∀ (s : State) (run : List Byte), run.length + 2 ≤ 2 ^ 64 →
    (∀ b ∈ run, b = lockByte ∨ isOtherPrefix b = true) → (∃ b ∈ run, isOtherPrefix b = true) →
    (∀ k, k < run.length + 2 →
      s.mem.read (s.fetchAddress + BitVec.ofNat 64 k) = (run ++ encode .sysenter)[k]?) →
    step s = .refused .prefixNotInScope
end

