-- ==== Sys2Proof/Laws/Memory.lean ====
section
/-! SUPPORT. Reading after writing, and the canonical form of the memory. -/

namespace Sys2Proof.Machine

variable (m : Memory) (a a' : Word) (b : Byte)

@[simp] theorem Memory.read_nil : Memory.read [] a = none := rfl

/-- A byte that was just written is what is read there. -/
@[simp] theorem Memory.read_write_same : Memory.read (Memory.write m a b) a = some b := by
  induction m with
  | nil => simp [Memory.write, Memory.read]
  | cons cell m ih =>
    obtain ⟨k, c⟩ := cell
    simp only [Memory.write]
    split
    · simp [Memory.read]
    · split
      · simp [Memory.read, *]
      · simp [Memory.read, *]

/-- A write leaves every other address alone. -/
theorem Memory.read_write_other (h : a' ≠ a) :
    Memory.read (Memory.write m a b) a' = Memory.read m a' := by
  have hn : a.toNat ≠ a'.toNat := fun e => h (BitVec.eq_of_toNat_eq e.symm)
  induction m with
  | nil => simp [Memory.write, Memory.read, hn]
  | cons cell m ih =>
    obtain ⟨k, c⟩ := cell
    simp only [Memory.write]
    split
    · simp [Memory.read, hn]
    · split
      · rename_i hk
        subst hk
        simp [Memory.read, hn]
      · simp [Memory.read, ih]

/-- Writing bytes leaves every address outside their range alone. -/
theorem Memory.read_writeBytes_other (bs : List Byte) :
    ∀ (m : Memory) (a : Word), (∀ k < bs.length, a' ≠ a + BitVec.ofNat 64 k) →
      Memory.read (Memory.writeBytes m a bs) a' = Memory.read m a' := by
  induction bs with
  | nil => intro m a _; rfl
  | cons b bs ih =>
    intro m a h
    have h0 : a' ≠ a := by simpa using h 0 (by simp)
    rw [Memory.writeBytes, ih, Memory.read_write_other _ _ _ _ h0]
    intro k hk
    have := h (k + 1) (by simpa using hk)
    intro e
    apply this
    rw [e, BitVec.add_assoc]
    congr 1
    apply BitVec.eq_of_toNat_eq
    simp [Nat.add_comm]

/-- A write at or above the lower bound keeps the rise of the addresses. -/
theorem Memory.risesFrom_write (lo : Nat) (h : Memory.risesFrom lo m = true) (hlo : lo ≤ a.toNat) :
    Memory.risesFrom lo (Memory.write m a b) = true := by
  have ha : a.toNat < 18446744073709551616 := a.isLt
  induction m generalizing lo with
  | nil => simp [Memory.write, Memory.risesFrom, hlo, ha]
  | cons cell m ih =>
    obtain ⟨k, c⟩ := cell
    simp only [Memory.risesFrom, Bool.and_eq_true, decide_eq_true_eq] at h
    obtain ⟨⟨h1, h2⟩, h3⟩ := h
    simp only [Memory.write]
    split
    · rename_i hk
      simp only [Memory.risesFrom, Bool.and_eq_true, decide_eq_true_eq]
      exact ⟨⟨hlo, ha⟩, ⟨hk, h2⟩, h3⟩
    · split
      · simp only [Memory.risesFrom, Bool.and_eq_true, decide_eq_true_eq]
        exact ⟨⟨h1, h2⟩, h3⟩
      · simp only [Memory.risesFrom, Bool.and_eq_true, decide_eq_true_eq]
        exact ⟨⟨h1, h2⟩, ih _ h3 (by omega)⟩

/-- A write keeps the canonical form. -/
theorem Memory.wf_write (h : Memory.wf m = true) : Memory.wf (Memory.write m a b) = true :=
  Memory.risesFrom_write m a b 0 h (Nat.zero_le _)

/-- Writing bytes keeps the canonical form. -/
theorem Memory.wf_writeBytes (bs : List Byte) :
    ∀ (m : Memory) (a : Word), Memory.wf m = true → Memory.wf (Memory.writeBytes m a bs) = true := by
  induction bs with
  | nil => exact fun _ _ h => h
  | cons b bs ih => exact fun m a h => ih _ _ (Memory.wf_write m a b h)

/-- The memory at reset has the canonical form. -/
theorem reset_mem_wf : Memory.wf State.reset.mem = true := rfl

end Sys2Proof.Machine
end

