-- ==== Sys2Proof/Laws/Ops.lean ====
section
/-! SUPPORT. For each shared operation, once, everything it can do. -/

namespace Sys2Proof.Machine

variable (s t : State) (k : Result)

/-- `raise` answers no next state. -/
@[simp] theorem raise_ne_next (f : Fault) : raise f ≠ .next t := by simp [raise]

/-- Where `requireSep` answers a next state, the instruction is present and the rest answers it. -/
theorem requireSep_eq_next : requireSep s k = .next t ↔ s.cfg.sepPresent = true ∧ k = .next t := by
  unfold requireSep
  split <;> simp_all

/-- Where `requireCanonicalMsrs` answers a next state, `P_canon` holds and the rest answers it. -/
theorem requireCanonicalMsrs_eq_next :
    requireCanonicalMsrs s k = .next t ↔ canonicalMsrs s.cfg s.cpu = true ∧ k = .next t := by
  unfold requireCanonicalMsrs
  split <;> simp_all

/-- Where `requireAgreement` answers a next state, the two readings agree and the rest answers it. -/
theorem requireAgreement_eq_next (x y : Bool) : requireAgreement x y k = .next t ↔ x = y ∧ k = .next t := by
  unfold requireAgreement
  split <;> simp_all

/-- Where `requireSep` raises, the instruction is present and the rest raises. -/
theorem requireSep_eq_fault (f : Fault) : requireSep s k = .fault f ↔ s.cfg.sepPresent = true ∧ k = .fault f := by
  unfold requireSep
  split <;> simp_all

/-- Where `requireCanonicalMsrs` raises, `P_canon` holds and the rest raises. -/
theorem requireCanonicalMsrs_eq_fault (f : Fault) :
    requireCanonicalMsrs s k = .fault f ↔ canonicalMsrs s.cfg s.cpu = true ∧ k = .fault f := by
  unfold requireCanonicalMsrs
  split <;> simp_all

/-- Where `requireAgreement` raises, the two readings agree and the rest raises. -/
theorem requireAgreement_eq_fault (x y : Bool) (f : Fault) :
    requireAgreement x y k = .fault f ↔ x = y ∧ k = .fault f := by
  unfold requireAgreement
  split <;> simp_all

/-- Where `WriteMSR` answers a next state, the value was accepted and that state holds it. -/
theorem writeMsr_eq_next (m : SysenterMsr) (v : Word) :
    writeMsr m v s = .next t ↔ msrAccepts s.cfg m v = true ∧ { s with cpu := setMsr m v s.cpu } = t := by
  unfold writeMsr
  split <;> simp_all

/-- A fetch answers an instruction exactly where the fetched bytes decode to it. -/
theorem fetchDecode_eq_ok (i : Instr) : s.fetchDecode = .ok i ↔ ∃ rest, decode s.fetchBytes = .instr i rest := by
  unfold State.fetchDecode
  split <;> simp_all

/-- After a run of prefixes and 0FH, the decoder answers one of the two refusals. -/
theorem decodePrefixedEscape_cases (o : Bool) (bs : List Byte) :
    decodePrefixedEscape o bs = .prefixNotInScope ∨ decodePrefixedEscape o bs = .notInScope := by
  unfold decodePrefixedEscape
  split
  · simp
  · split <;> simp

/-- After a run of prefixes that begins no row, the decoder answers one of the two refusals: no instruction, and no byte is
needed (20_memory.md rule R43). -/
theorem decodePrefixed_cases (o : Bool) (bs : List Byte) :
    decodePrefixed o bs = .prefixNotInScope ∨ decodePrefixed o bs = .notInScope := by
  induction bs generalizing o with
  | nil => simp [decodePrefixed]
  | cons b bs ih =>
    simp only [decodePrefixed]
    split
    · exact decodePrefixedEscape_cases o bs
    · split
      · exact ih o
      · split
        · exact ih true
        · simp

/-- With nothing mapped at the address, no byte is fetched. -/
theorem bytesFrom_of_unmapped (m : Memory) (n : Nat) (a : Word) (h : Memory.read m a = none) :
    bytesFrom m n a = [] := by
  cases n <;> simp [bytesFrom, h]

/-- A mapped byte is the first of the bytes fetched. -/
theorem bytesFrom_of_mapped (m : Memory) (n : Nat) (a : Word) (b : Byte) (h : Memory.read m a = some b) :
    bytesFrom m (n + 1) a = b :: bytesFrom m n (a + 1) := by
  simp [bytesFrom, h]

/-- The first CET predicate is false where CET is absent. -/
@[simp] theorem shadowStackEnabled_of_absent (cfg : Config) (c : Cpu) (p : Privilege)
    (h : cfg.cetPresent = false) : shadowStackEnabled cfg c p = false := by
  simp [shadowStackEnabled, h]

/-- The second CET predicate is false where CET is absent. -/
@[simp] theorem endbranchEnabled_of_absent (cfg : Config) (c : Cpu) (p : Privilege)
    (h : cfg.cetPresent = false) : endbranchEnabled cfg c p = false := by
  simp [endbranchEnabled, h]

/-- The low half of a joined register is the half that was loaded. -/
@[simp] theorem low32_joinHalves (hi lo : BitVec 32) : low32 (joinHalves hi lo) = lo := by
  apply BitVec.eq_of_getLsbD_eq
  intro i h
  simp only [low32, joinHalves, BitVec.getLsbD_extractLsb', BitVec.getLsbD_append]
  simp [h]

end Sys2Proof.Machine
end

