-- ==== Sys2Proof/Laws/PerInstr.lean ====
section
/-! SUPPORT. The statements made once per instruction. -/

/-- The instruction is well-formed, its encoding has its length, at most the longest, and ends in the two opcode bytes
(30_encoding.md rules R61, R63, R65). -/
def Sys2Proof.Laws.EncodedForm.Statement (i : Sys2Proof.Instr) : Prop :=
  i.wf = true ∧ (Sys2Proof.encode i).length = i.length ∧ i.length ≤ Sys2Proof.longestInstr ∧
    [Sys2Proof.escapeByte, Sys2Proof.sysenterByte] <:+ Sys2Proof.encode i

theorem Sys2Proof.Laws.EncodedForm.sysenter : Sys2Proof.Laws.EncodedForm.Statement .sysenter :=
  ⟨rfl, rfl, by decide, by decide⟩

theorem Sys2Proof.Laws.EncodedForm.lockSysenter : Sys2Proof.Laws.EncodedForm.Statement .lockSysenter :=
  ⟨rfl, rfl, by decide, by decide⟩
end

