-- ==== Sys2Proof/Laws/Run.lean ====
section
/-! SUPPORT. Runs, one step at a time. -/

namespace Sys2Proof.Machine

variable (s t : State) (n : Nat)

@[simp] theorem run_zero : Sys2Proof.core.run 0 s = .next s := rfl

/-- After a completed step the run goes on from the state it gave. -/
theorem run_succ_of_next (h : step s = .next t) : Sys2Proof.core.run (n + 1) s = Sys2Proof.core.run n t := by
  have h' : Sys2Proof.core.step s = .next t := h
  simp only [Host.Core.run, h']

/-- A run of one or more steps that completes has completed its first step. -/
theorem run_succ_eq_next (h : Sys2Proof.core.run (n + 1) s = .next t) :
    ∃ u, step s = .next u ∧ Sys2Proof.core.run n u = .next t := by
  cases hs : step s with
  | next u => exact ⟨u, rfl, by rw [← run_succ_of_next s u n hs, h]⟩
  | fault f =>
    have h' : Sys2Proof.core.step s = .fault f := hs
    simp [Host.Core.run, h'] at h
  | refused r =>
    have h' : Sys2Proof.core.step s = .refused r := hs
    simp [Host.Core.run, h'] at h

end Sys2Proof.Machine
end

