-- ==== Sys2Proof/Laws/State.lean ====
section
/-! SUPPORT. What each update of the processor and of the state leaves in each field. -/

namespace Sys2Proof.Machine

section CpuUpdates

variable (cfg : Config) (laWidth : Nat) (lma save : Bool) (hiRsp hiRip : BitVec 32) (c : Cpu)

/-! `clearVmIf` -/

@[simp] theorem clearVmIf_rip : (clearVmIf c).rip = c.rip := rfl
@[simp] theorem clearVmIf_rsp : (clearVmIf c).rsp = c.rsp := rfl
@[simp] theorem clearVmIf_gprs : (clearVmIf c).gprs = c.gprs := rfl
@[simp] theorem clearVmIf_rflags : (clearVmIf c).rflags = { c.rflags with VM := false, IF := false } := rfl
@[simp] theorem clearVmIf_cs : (clearVmIf c).cs = c.cs := rfl
@[simp] theorem clearVmIf_ss : (clearVmIf c).ss = c.ss := rfl
@[simp] theorem clearVmIf_ds : (clearVmIf c).ds = c.ds := rfl
@[simp] theorem clearVmIf_es : (clearVmIf c).es = c.es := rfl
@[simp] theorem clearVmIf_fs : (clearVmIf c).fs = c.fs := rfl
@[simp] theorem clearVmIf_gs : (clearVmIf c).gs = c.gs := rfl
@[simp] theorem clearVmIf_gdtr : (clearVmIf c).gdtr = c.gdtr := rfl
@[simp] theorem clearVmIf_idtr : (clearVmIf c).idtr = c.idtr := rfl
@[simp] theorem clearVmIf_ldtr : (clearVmIf c).ldtr = c.ldtr := rfl
@[simp] theorem clearVmIf_cpl : (clearVmIf c).cpl = c.cpl := rfl
@[simp] theorem clearVmIf_cr0 : (clearVmIf c).cr0 = c.cr0 := rfl
@[simp] theorem clearVmIf_cr4 : (clearVmIf c).cr4 = c.cr4 := rfl
@[simp] theorem clearVmIf_efer : (clearVmIf c).efer = c.efer := rfl
@[simp] theorem clearVmIf_sysenterCs : (clearVmIf c).sysenterCs = c.sysenterCs := rfl
@[simp] theorem clearVmIf_sysenterEsp : (clearVmIf c).sysenterEsp = c.sysenterEsp := rfl
@[simp] theorem clearVmIf_sysenterEip : (clearVmIf c).sysenterEip = c.sysenterEip := rfl
@[simp] theorem clearVmIf_ssp : (clearVmIf c).ssp = c.ssp := rfl
@[simp] theorem clearVmIf_pl3Ssp : (clearVmIf c).pl3Ssp = c.pl3Ssp := rfl
@[simp] theorem clearVmIf_sCet : (clearVmIf c).sCet = c.sCet := rfl
@[simp] theorem clearVmIf_uCet : (clearVmIf c).uCet = c.uCet := rfl

/-! `loadPointers` -/

@[simp] theorem loadPointers_rip :
    (loadPointers lma hiRsp hiRip c).rip =
      if lma then c.sysenterEip else joinHalves hiRip (low32 c.sysenterEip) := rfl
@[simp] theorem loadPointers_rsp :
    (loadPointers lma hiRsp hiRip c).rsp =
      if lma then c.sysenterEsp else joinHalves hiRsp (low32 c.sysenterEsp) := rfl
@[simp] theorem loadPointers_gprs : (loadPointers lma hiRsp hiRip c).gprs = c.gprs := rfl
@[simp] theorem loadPointers_rflags : (loadPointers lma hiRsp hiRip c).rflags = c.rflags := rfl
@[simp] theorem loadPointers_cs : (loadPointers lma hiRsp hiRip c).cs = c.cs := rfl
@[simp] theorem loadPointers_ss : (loadPointers lma hiRsp hiRip c).ss = c.ss := rfl
@[simp] theorem loadPointers_ds : (loadPointers lma hiRsp hiRip c).ds = c.ds := rfl
@[simp] theorem loadPointers_es : (loadPointers lma hiRsp hiRip c).es = c.es := rfl
@[simp] theorem loadPointers_fs : (loadPointers lma hiRsp hiRip c).fs = c.fs := rfl
@[simp] theorem loadPointers_gs : (loadPointers lma hiRsp hiRip c).gs = c.gs := rfl
@[simp] theorem loadPointers_gdtr : (loadPointers lma hiRsp hiRip c).gdtr = c.gdtr := rfl
@[simp] theorem loadPointers_idtr : (loadPointers lma hiRsp hiRip c).idtr = c.idtr := rfl
@[simp] theorem loadPointers_ldtr : (loadPointers lma hiRsp hiRip c).ldtr = c.ldtr := rfl
@[simp] theorem loadPointers_cpl : (loadPointers lma hiRsp hiRip c).cpl = c.cpl := rfl
@[simp] theorem loadPointers_cr0 : (loadPointers lma hiRsp hiRip c).cr0 = c.cr0 := rfl
@[simp] theorem loadPointers_cr4 : (loadPointers lma hiRsp hiRip c).cr4 = c.cr4 := rfl
@[simp] theorem loadPointers_efer : (loadPointers lma hiRsp hiRip c).efer = c.efer := rfl
@[simp] theorem loadPointers_sysenterCs : (loadPointers lma hiRsp hiRip c).sysenterCs = c.sysenterCs := rfl
@[simp] theorem loadPointers_sysenterEsp : (loadPointers lma hiRsp hiRip c).sysenterEsp = c.sysenterEsp := rfl
@[simp] theorem loadPointers_sysenterEip : (loadPointers lma hiRsp hiRip c).sysenterEip = c.sysenterEip := rfl
@[simp] theorem loadPointers_ssp : (loadPointers lma hiRsp hiRip c).ssp = c.ssp := rfl
@[simp] theorem loadPointers_pl3Ssp : (loadPointers lma hiRsp hiRip c).pl3Ssp = c.pl3Ssp := rfl
@[simp] theorem loadPointers_sCet : (loadPointers lma hiRsp hiRip c).sCet = c.sCet := rfl
@[simp] theorem loadPointers_uCet : (loadPointers lma hiRsp hiRip c).uCet = c.uCet := rfl

/-! `loadCs` -/

@[simp] theorem loadCs_rip : (loadCs lma c).rip = c.rip := rfl
@[simp] theorem loadCs_rsp : (loadCs lma c).rsp = c.rsp := rfl
@[simp] theorem loadCs_gprs : (loadCs lma c).gprs = c.gprs := rfl
@[simp] theorem loadCs_rflags : (loadCs lma c).rflags = c.rflags := rfl
@[simp] theorem loadCs_cs : (loadCs lma c).cs = entryCs lma (clearRpl (selectorField c.sysenterCs)) := rfl
@[simp] theorem loadCs_ss : (loadCs lma c).ss = c.ss := rfl
@[simp] theorem loadCs_ds : (loadCs lma c).ds = c.ds := rfl
@[simp] theorem loadCs_es : (loadCs lma c).es = c.es := rfl
@[simp] theorem loadCs_fs : (loadCs lma c).fs = c.fs := rfl
@[simp] theorem loadCs_gs : (loadCs lma c).gs = c.gs := rfl
@[simp] theorem loadCs_gdtr : (loadCs lma c).gdtr = c.gdtr := rfl
@[simp] theorem loadCs_idtr : (loadCs lma c).idtr = c.idtr := rfl
@[simp] theorem loadCs_ldtr : (loadCs lma c).ldtr = c.ldtr := rfl
@[simp] theorem loadCs_cpl : (loadCs lma c).cpl = c.cpl := rfl
@[simp] theorem loadCs_cr0 : (loadCs lma c).cr0 = c.cr0 := rfl
@[simp] theorem loadCs_cr4 : (loadCs lma c).cr4 = c.cr4 := rfl
@[simp] theorem loadCs_efer : (loadCs lma c).efer = c.efer := rfl
@[simp] theorem loadCs_sysenterCs : (loadCs lma c).sysenterCs = c.sysenterCs := rfl
@[simp] theorem loadCs_sysenterEsp : (loadCs lma c).sysenterEsp = c.sysenterEsp := rfl
@[simp] theorem loadCs_sysenterEip : (loadCs lma c).sysenterEip = c.sysenterEip := rfl
@[simp] theorem loadCs_ssp : (loadCs lma c).ssp = c.ssp := rfl
@[simp] theorem loadCs_pl3Ssp : (loadCs lma c).pl3Ssp = c.pl3Ssp := rfl
@[simp] theorem loadCs_sCet : (loadCs lma c).sCet = c.sCet := rfl
@[simp] theorem loadCs_uCet : (loadCs lma c).uCet = c.uCet := rfl

/-! `saveSsp` -/

@[simp] theorem saveSsp_rip : (saveSsp laWidth lma save c).rip = c.rip := rfl
@[simp] theorem saveSsp_rsp : (saveSsp laWidth lma save c).rsp = c.rsp := rfl
@[simp] theorem saveSsp_gprs : (saveSsp laWidth lma save c).gprs = c.gprs := rfl
@[simp] theorem saveSsp_rflags : (saveSsp laWidth lma save c).rflags = c.rflags := rfl
@[simp] theorem saveSsp_cs : (saveSsp laWidth lma save c).cs = c.cs := rfl
@[simp] theorem saveSsp_ss : (saveSsp laWidth lma save c).ss = c.ss := rfl
@[simp] theorem saveSsp_ds : (saveSsp laWidth lma save c).ds = c.ds := rfl
@[simp] theorem saveSsp_es : (saveSsp laWidth lma save c).es = c.es := rfl
@[simp] theorem saveSsp_fs : (saveSsp laWidth lma save c).fs = c.fs := rfl
@[simp] theorem saveSsp_gs : (saveSsp laWidth lma save c).gs = c.gs := rfl
@[simp] theorem saveSsp_gdtr : (saveSsp laWidth lma save c).gdtr = c.gdtr := rfl
@[simp] theorem saveSsp_idtr : (saveSsp laWidth lma save c).idtr = c.idtr := rfl
@[simp] theorem saveSsp_ldtr : (saveSsp laWidth lma save c).ldtr = c.ldtr := rfl
@[simp] theorem saveSsp_cpl : (saveSsp laWidth lma save c).cpl = c.cpl := rfl
@[simp] theorem saveSsp_cr0 : (saveSsp laWidth lma save c).cr0 = c.cr0 := rfl
@[simp] theorem saveSsp_cr4 : (saveSsp laWidth lma save c).cr4 = c.cr4 := rfl
@[simp] theorem saveSsp_efer : (saveSsp laWidth lma save c).efer = c.efer := rfl
@[simp] theorem saveSsp_sysenterCs : (saveSsp laWidth lma save c).sysenterCs = c.sysenterCs := rfl
@[simp] theorem saveSsp_sysenterEsp : (saveSsp laWidth lma save c).sysenterEsp = c.sysenterEsp := rfl
@[simp] theorem saveSsp_sysenterEip : (saveSsp laWidth lma save c).sysenterEip = c.sysenterEip := rfl
@[simp] theorem saveSsp_ssp : (saveSsp laWidth lma save c).ssp = c.ssp := rfl
@[simp] theorem saveSsp_pl3Ssp :
    (saveSsp laWidth lma save c).pl3Ssp =
      if save then (if lma then laAdjust laWidth c.ssp else c.ssp) else c.pl3Ssp := rfl
@[simp] theorem saveSsp_sCet : (saveSsp laWidth lma save c).sCet = c.sCet := rfl
@[simp] theorem saveSsp_uCet : (saveSsp laWidth lma save c).uCet = c.uCet := rfl

/-! `enterLevel0` -/

@[simp] theorem enterLevel0_rip : (enterLevel0 c).rip = c.rip := rfl
@[simp] theorem enterLevel0_rsp : (enterLevel0 c).rsp = c.rsp := rfl
@[simp] theorem enterLevel0_gprs : (enterLevel0 c).gprs = c.gprs := rfl
@[simp] theorem enterLevel0_rflags : (enterLevel0 c).rflags = c.rflags := rfl
@[simp] theorem enterLevel0_cs : (enterLevel0 c).cs = c.cs := rfl
@[simp] theorem enterLevel0_ss : (enterLevel0 c).ss = c.ss := rfl
@[simp] theorem enterLevel0_ds : (enterLevel0 c).ds = c.ds := rfl
@[simp] theorem enterLevel0_es : (enterLevel0 c).es = c.es := rfl
@[simp] theorem enterLevel0_fs : (enterLevel0 c).fs = c.fs := rfl
@[simp] theorem enterLevel0_gs : (enterLevel0 c).gs = c.gs := rfl
@[simp] theorem enterLevel0_gdtr : (enterLevel0 c).gdtr = c.gdtr := rfl
@[simp] theorem enterLevel0_idtr : (enterLevel0 c).idtr = c.idtr := rfl
@[simp] theorem enterLevel0_ldtr : (enterLevel0 c).ldtr = c.ldtr := rfl
@[simp] theorem enterLevel0_cpl : (enterLevel0 c).cpl = 0 := rfl
@[simp] theorem enterLevel0_cr0 : (enterLevel0 c).cr0 = c.cr0 := rfl
@[simp] theorem enterLevel0_cr4 : (enterLevel0 c).cr4 = c.cr4 := rfl
@[simp] theorem enterLevel0_efer : (enterLevel0 c).efer = c.efer := rfl
@[simp] theorem enterLevel0_sysenterCs : (enterLevel0 c).sysenterCs = c.sysenterCs := rfl
@[simp] theorem enterLevel0_sysenterEsp : (enterLevel0 c).sysenterEsp = c.sysenterEsp := rfl
@[simp] theorem enterLevel0_sysenterEip : (enterLevel0 c).sysenterEip = c.sysenterEip := rfl
@[simp] theorem enterLevel0_ssp : (enterLevel0 c).ssp = c.ssp := rfl
@[simp] theorem enterLevel0_pl3Ssp : (enterLevel0 c).pl3Ssp = c.pl3Ssp := rfl
@[simp] theorem enterLevel0_sCet : (enterLevel0 c).sCet = c.sCet := rfl
@[simp] theorem enterLevel0_uCet : (enterLevel0 c).uCet = c.uCet := rfl

/-! `clearSsp` -/

@[simp] theorem clearSsp_rip : (clearSsp cfg c).rip = c.rip := rfl
@[simp] theorem clearSsp_rsp : (clearSsp cfg c).rsp = c.rsp := rfl
@[simp] theorem clearSsp_gprs : (clearSsp cfg c).gprs = c.gprs := rfl
@[simp] theorem clearSsp_rflags : (clearSsp cfg c).rflags = c.rflags := rfl
@[simp] theorem clearSsp_cs : (clearSsp cfg c).cs = c.cs := rfl
@[simp] theorem clearSsp_ss : (clearSsp cfg c).ss = c.ss := rfl
@[simp] theorem clearSsp_ds : (clearSsp cfg c).ds = c.ds := rfl
@[simp] theorem clearSsp_es : (clearSsp cfg c).es = c.es := rfl
@[simp] theorem clearSsp_fs : (clearSsp cfg c).fs = c.fs := rfl
@[simp] theorem clearSsp_gs : (clearSsp cfg c).gs = c.gs := rfl
@[simp] theorem clearSsp_gdtr : (clearSsp cfg c).gdtr = c.gdtr := rfl
@[simp] theorem clearSsp_idtr : (clearSsp cfg c).idtr = c.idtr := rfl
@[simp] theorem clearSsp_ldtr : (clearSsp cfg c).ldtr = c.ldtr := rfl
@[simp] theorem clearSsp_cpl : (clearSsp cfg c).cpl = c.cpl := rfl
@[simp] theorem clearSsp_cr0 : (clearSsp cfg c).cr0 = c.cr0 := rfl
@[simp] theorem clearSsp_cr4 : (clearSsp cfg c).cr4 = c.cr4 := rfl
@[simp] theorem clearSsp_efer : (clearSsp cfg c).efer = c.efer := rfl
@[simp] theorem clearSsp_sysenterCs : (clearSsp cfg c).sysenterCs = c.sysenterCs := rfl
@[simp] theorem clearSsp_sysenterEsp : (clearSsp cfg c).sysenterEsp = c.sysenterEsp := rfl
@[simp] theorem clearSsp_sysenterEip : (clearSsp cfg c).sysenterEip = c.sysenterEip := rfl
@[simp] theorem clearSsp_ssp : (clearSsp cfg c).ssp = if shadowStackEnabled cfg c 0 then 0 else c.ssp := rfl
@[simp] theorem clearSsp_pl3Ssp : (clearSsp cfg c).pl3Ssp = c.pl3Ssp := rfl
@[simp] theorem clearSsp_sCet : (clearSsp cfg c).sCet = c.sCet := rfl
@[simp] theorem clearSsp_uCet : (clearSsp cfg c).uCet = c.uCet := rfl

/-! `armTracker` -/

@[simp] theorem armTracker_rip : (armTracker cfg c).rip = c.rip := rfl
@[simp] theorem armTracker_rsp : (armTracker cfg c).rsp = c.rsp := rfl
@[simp] theorem armTracker_gprs : (armTracker cfg c).gprs = c.gprs := rfl
@[simp] theorem armTracker_rflags : (armTracker cfg c).rflags = c.rflags := rfl
@[simp] theorem armTracker_cs : (armTracker cfg c).cs = c.cs := rfl
@[simp] theorem armTracker_ss : (armTracker cfg c).ss = c.ss := rfl
@[simp] theorem armTracker_ds : (armTracker cfg c).ds = c.ds := rfl
@[simp] theorem armTracker_es : (armTracker cfg c).es = c.es := rfl
@[simp] theorem armTracker_fs : (armTracker cfg c).fs = c.fs := rfl
@[simp] theorem armTracker_gs : (armTracker cfg c).gs = c.gs := rfl
@[simp] theorem armTracker_gdtr : (armTracker cfg c).gdtr = c.gdtr := rfl
@[simp] theorem armTracker_idtr : (armTracker cfg c).idtr = c.idtr := rfl
@[simp] theorem armTracker_ldtr : (armTracker cfg c).ldtr = c.ldtr := rfl
@[simp] theorem armTracker_cpl : (armTracker cfg c).cpl = c.cpl := rfl
@[simp] theorem armTracker_cr0 : (armTracker cfg c).cr0 = c.cr0 := rfl
@[simp] theorem armTracker_cr4 : (armTracker cfg c).cr4 = c.cr4 := rfl
@[simp] theorem armTracker_efer : (armTracker cfg c).efer = c.efer := rfl
@[simp] theorem armTracker_sysenterCs : (armTracker cfg c).sysenterCs = c.sysenterCs := rfl
@[simp] theorem armTracker_sysenterEsp : (armTracker cfg c).sysenterEsp = c.sysenterEsp := rfl
@[simp] theorem armTracker_sysenterEip : (armTracker cfg c).sysenterEip = c.sysenterEip := rfl
@[simp] theorem armTracker_ssp : (armTracker cfg c).ssp = c.ssp := rfl
@[simp] theorem armTracker_pl3Ssp : (armTracker cfg c).pl3Ssp = c.pl3Ssp := rfl
@[simp] theorem armTracker_sCet :
    (armTracker cfg c).sCet =
      if endbranchEnabled cfg c 0 then { c.sCet with TRACKER := .waitForEndbranch, SUPPRESS := false } else c.sCet := rfl
@[simp] theorem armTracker_uCet : (armTracker cfg c).uCet = c.uCet := rfl

/-! `loadSs` -/

@[simp] theorem loadSs_rip : (loadSs c).rip = c.rip := rfl
@[simp] theorem loadSs_rsp : (loadSs c).rsp = c.rsp := rfl
@[simp] theorem loadSs_gprs : (loadSs c).gprs = c.gprs := rfl
@[simp] theorem loadSs_rflags : (loadSs c).rflags = c.rflags := rfl
@[simp] theorem loadSs_cs : (loadSs c).cs = c.cs := rfl
@[simp] theorem loadSs_ss : (loadSs c).ss = entrySs (selectorAbove c.cs.selector) := rfl
@[simp] theorem loadSs_ds : (loadSs c).ds = c.ds := rfl
@[simp] theorem loadSs_es : (loadSs c).es = c.es := rfl
@[simp] theorem loadSs_fs : (loadSs c).fs = c.fs := rfl
@[simp] theorem loadSs_gs : (loadSs c).gs = c.gs := rfl
@[simp] theorem loadSs_gdtr : (loadSs c).gdtr = c.gdtr := rfl
@[simp] theorem loadSs_idtr : (loadSs c).idtr = c.idtr := rfl
@[simp] theorem loadSs_ldtr : (loadSs c).ldtr = c.ldtr := rfl
@[simp] theorem loadSs_cpl : (loadSs c).cpl = c.cpl := rfl
@[simp] theorem loadSs_cr0 : (loadSs c).cr0 = c.cr0 := rfl
@[simp] theorem loadSs_cr4 : (loadSs c).cr4 = c.cr4 := rfl
@[simp] theorem loadSs_efer : (loadSs c).efer = c.efer := rfl
@[simp] theorem loadSs_sysenterCs : (loadSs c).sysenterCs = c.sysenterCs := rfl
@[simp] theorem loadSs_sysenterEsp : (loadSs c).sysenterEsp = c.sysenterEsp := rfl
@[simp] theorem loadSs_sysenterEip : (loadSs c).sysenterEip = c.sysenterEip := rfl
@[simp] theorem loadSs_ssp : (loadSs c).ssp = c.ssp := rfl
@[simp] theorem loadSs_pl3Ssp : (loadSs c).pl3Ssp = c.pl3Ssp := rfl
@[simp] theorem loadSs_sCet : (loadSs c).sCet = c.sCet := rfl
@[simp] theorem loadSs_uCet : (loadSs c).uCet = c.uCet := rfl

end CpuUpdates

/-! The segments SYSENTER loads. -/

section Segments

variable (lma : Bool) (sel : Selector)

@[simp] theorem entryCs_selector : (entryCs lma sel).selector = sel := rfl
@[simp] theorem entryCs_base : (entryCs lma sel).base = 0 := rfl
@[simp] theorem entryCs_limit : (entryCs lma sel).limit = 0xFFFFF := rfl
@[simp] theorem entryCs_type : (entryCs lma sel).type = 11 := rfl
@[simp] theorem entryCs_s : (entryCs lma sel).s = true := rfl
@[simp] theorem entryCs_dpl : (entryCs lma sel).dpl = 0 := rfl
@[simp] theorem entryCs_p : (entryCs lma sel).p = true := rfl
@[simp] theorem entryCs_l : (entryCs lma sel).l = lma := rfl
@[simp] theorem entryCs_d : (entryCs lma sel).d = (!lma) := rfl
@[simp] theorem entryCs_g : (entryCs lma sel).g = true := rfl
@[simp] theorem entrySs_selector : (entrySs sel).selector = sel := rfl
@[simp] theorem entrySs_base : (entrySs sel).base = 0 := rfl
@[simp] theorem entrySs_limit : (entrySs sel).limit = 0xFFFFF := rfl
@[simp] theorem entrySs_type : (entrySs sel).type = 3 := rfl
@[simp] theorem entrySs_s : (entrySs sel).s = true := rfl
@[simp] theorem entrySs_dpl : (entrySs sel).dpl = 0 := rfl
@[simp] theorem entrySs_p : (entrySs sel).p = true := rfl
@[simp] theorem entrySs_b : (entrySs sel).b = true := rfl
@[simp] theorem entrySs_g : (entrySs sel).g = true := rfl

end Segments

/-! The updates of the state. -/

section StateUpdates

variable (s : State) (bs : List Byte) (m : SysenterMsr) (v : Word)

@[simp] theorem enterKernel_cfg : (enterKernel s).cfg = s.cfg := rfl
@[simp] theorem enterKernel_mem : (enterKernel s).mem = s.mem := rfl
@[simp] theorem enterKernel_draws : (enterKernel s).draws = if s.lma then s.draws else s.draws + 2 := rfl
@[simp] theorem placeBytes_cfg : (s.placeBytes bs).cfg = s.cfg := rfl
@[simp] theorem placeBytes_cpu : (s.placeBytes bs).cpu = s.cpu := rfl
@[simp] theorem placeBytes_draws : (s.placeBytes bs).draws = s.draws := rfl
@[simp] theorem placeBytes_mem :
    (s.placeBytes bs).mem = Memory.writeBytes s.mem s.fetchAddress bs := rfl
@[simp] theorem placeBytes_mode : (s.placeBytes bs).mode = s.mode := rfl
@[simp] theorem placeBytes_fetchAddress : (s.placeBytes bs).fetchAddress = s.fetchAddress := rfl

/-! `setMsr`: the MSR written, and the two address MSRs and the selector MSR apart. -/

@[simp] theorem readMsr_setMsr (c : Cpu) : readMsr m (setMsr m v c) = v := by cases m <;> rfl
theorem readMsr_setMsr_ne (c : Cpu) (n : SysenterMsr) (h : n ≠ m) : readMsr n (setMsr m v c) = readMsr n c := by
  cases m <;> cases n <;> first | rfl | exact absurd rfl h

@[simp] theorem setMsr_rip (c : Cpu) : (setMsr m v c).rip = c.rip := by cases m <;> rfl
@[simp] theorem setMsr_rsp (c : Cpu) : (setMsr m v c).rsp = c.rsp := by cases m <;> rfl
@[simp] theorem setMsr_gprs (c : Cpu) : (setMsr m v c).gprs = c.gprs := by cases m <;> rfl
@[simp] theorem setMsr_rflags (c : Cpu) : (setMsr m v c).rflags = c.rflags := by cases m <;> rfl
@[simp] theorem setMsr_cs (c : Cpu) : (setMsr m v c).cs = c.cs := by cases m <;> rfl
@[simp] theorem setMsr_ss (c : Cpu) : (setMsr m v c).ss = c.ss := by cases m <;> rfl
@[simp] theorem setMsr_ds (c : Cpu) : (setMsr m v c).ds = c.ds := by cases m <;> rfl
@[simp] theorem setMsr_es (c : Cpu) : (setMsr m v c).es = c.es := by cases m <;> rfl
@[simp] theorem setMsr_fs (c : Cpu) : (setMsr m v c).fs = c.fs := by cases m <;> rfl
@[simp] theorem setMsr_gs (c : Cpu) : (setMsr m v c).gs = c.gs := by cases m <;> rfl
@[simp] theorem setMsr_gdtr (c : Cpu) : (setMsr m v c).gdtr = c.gdtr := by cases m <;> rfl
@[simp] theorem setMsr_idtr (c : Cpu) : (setMsr m v c).idtr = c.idtr := by cases m <;> rfl
@[simp] theorem setMsr_ldtr (c : Cpu) : (setMsr m v c).ldtr = c.ldtr := by cases m <;> rfl
@[simp] theorem setMsr_cpl (c : Cpu) : (setMsr m v c).cpl = c.cpl := by cases m <;> rfl
@[simp] theorem setMsr_cr0 (c : Cpu) : (setMsr m v c).cr0 = c.cr0 := by cases m <;> rfl
@[simp] theorem setMsr_cr4 (c : Cpu) : (setMsr m v c).cr4 = c.cr4 := by cases m <;> rfl
@[simp] theorem setMsr_efer (c : Cpu) : (setMsr m v c).efer = c.efer := by cases m <;> rfl
@[simp] theorem setMsr_ssp (c : Cpu) : (setMsr m v c).ssp = c.ssp := by cases m <;> rfl
@[simp] theorem setMsr_pl3Ssp (c : Cpu) : (setMsr m v c).pl3Ssp = c.pl3Ssp := by cases m <;> rfl
@[simp] theorem setMsr_sCet (c : Cpu) : (setMsr m v c).sCet = c.sCet := by cases m <;> rfl
@[simp] theorem setMsr_uCet (c : Cpu) : (setMsr m v c).uCet = c.uCet := by cases m <;> rfl

end StateUpdates

end Sys2Proof.Machine
end

