-- ==== Sys2Proof/Tests/Slice0.lean ====
section
/-! SUPPORT. The checks of the model's own work: the smoke test of the checks, words of the opcode table, single steps and
values from 95_test_vectors.md, and for every statement with hypotheses a state that meets them (`witness_…`). -/

namespace Sys2Proof.Tests

open Sys2Proof.Machine Host

/-! ## The checks refuse what is ill-formed -/

/-- Every instruction is well-formed: there is no ill-formed term to write (30_encoding.md rule R66). -/
theorem test_every_instr_wf : ∀ i : Instr, i.wf = true := by intro i; cases i <;> rfl
theorem test_width_0_refused : Config.wf { resetConfig with laWidth := 0 } = false := by decide
theorem test_width_65_refused : Config.wf { resetConfig with laWidth := 65 } = false := by decide
theorem test_width_1_and_64_accepted :
    Config.wf { resetConfig with laWidth := 1 } = true ∧ Config.wf { resetConfig with laWidth := 64 } = true := by decide
theorem test_unsorted_memory_refused : Memory.wf [(2, 0), (1, 0)] = false := by decide
theorem test_repeated_address_refused : Memory.wf [(1, 0), (1, 1)] = false := by decide
theorem test_address_out_of_range_refused : Memory.wf [(2 ^ 64, 0)] = false := by decide

/-! ## Words written out from 30_encoding.md rules R61 and R63 -/

/-- Byte 0 is 0000 1111, byte 1 is 0011 0100 (rule R61). -/
theorem test_decode_sysenter : decode [0b00001111, 0b00110100, 0x90] = .instr .sysenter [0x90] := by decide
/-- The LOCK prefix 1111 0000, then the same two bytes (rule R63). -/
theorem test_decode_lock : decode [0b11110000, 0b00001111, 0b00110100] = .instr .lockSysenter [] := by decide
/-- V17: the byte order matters. -/
theorem test_decode_swapped : decode [0x34, 0x0F] = .notInScope := by decide
/-- V17: 66H is a prefix other than LOCK. -/
theorem test_decode_operand_size : decode [0x66, 0x0F, 0x34] = .prefixNotInScope := by decide
theorem test_decode_rex : decode [0x48, 0x0F, 0x34] = .prefixNotInScope := by decide
theorem test_decode_lock_and_other : decode [0xF0, 0x66, 0x0F, 0x34] = .prefixNotInScope := by decide
theorem test_decode_lock_twice : decode [0xF0, 0xF0, 0x0F, 0x34] = .notInScope := by decide
/-- V17: `F0 0F` and nothing more. -/
theorem test_decode_cut_short : decode [0xF0, 0x0F] = .needsByte := by decide
/-- Rules R43 and R68: these begin no row, so that no further byte is needed. -/
theorem test_decode_prefixes_cut_short :
    decode [0xF0, 0xF0, 0x0F] = .notInScope ∧ decode [0xF0, 0xF0] = .notInScope ∧ decode [0x66, 0x0F] = .notInScope ∧
    decode [0x66] = .notInScope := by decide
/-- The numbers of the opcode table: "match" 0x0F34 and 0xF00F34. -/
theorem test_table_words :
    decodeTableWord 16 0x0F34 = some .sysenter ∧ decodeTableWord 24 0xF00F34 = some .lockSysenter := by decide

/-! ## Small states (95_test_vectors.md) -/

/-- The start state of V1: user code in 64-bit mode, CET absent, `0F 34` at `RIP`. -/
def user64 : State :=
  { State.reset with
    cpu := { resetCpu with
      rip := 0x401000, rsp := 0x7FFFFFFFE000, cpl := 3, cr0 := { resetCpu.cr0 with PE := true }
      efer := { resetCpu.efer with LMA := true }, rflags := { VM := false, IF := true, rest := 2 }
      cs := { resetCpu.cs with selector := 0x33, base := 0, l := true }
      ss := { resetDataSegment with selector := 0x2B }
      sysenterCs := 0x10, sysenterEsp := 0xFFFF800000010000, sysenterEip := 0xFFFFFFFF81000000 }
    mem := [(0x401000, 0x0F), (0x401001, 0x34)] }

/-- The start state of V1 with an other `IA32_SYSENTER_CS`. -/
def user64Cs (v : Word) : State := { user64 with cpu := { user64.cpu with sysenterCs := v } }

/-- The start state of V8, or with `vm` that of V9: outside IA-32e mode. -/
def user32 (vm : Bool) : State :=
  { user64 with
    cpu := { user64.cpu with
      rip := 0x8048000, efer := { resetCpu.efer with LMA := false }, rflags := { VM := vm, IF := true, rest := 2 }
      cs := { resetCpu.cs with selector := 0x23, base := 0, d := true }
      sysenterCs := 8, sysenterEsp := 0x1234C0001000, sysenterEip := 0xC0100000 }
    mem := [(0x8048000, 0x0F), (0x8048001, 0x34)] }

/-- The start state of V14 with the customary predicates all switched on. -/
def withCet (s : State) : State :=
  { s with
    cfg := { s.cfg with cetPresent := true }
    cpu := { s.cpu with
      cr4 := { s.cpu.cr4 with CET := true }, uCet := { s.cpu.uCet with SH_STK_EN := true }
      sCet := { s.cpu.sCet with SH_STK_EN := true, ENDBR_EN := true, SUPPRESS := true }, ssp := 0x800000000008 } }

/-- The start state of V1 with other bytes mapped at `RIP`. -/
def user64At (m : Memory) : State := { user64 with mem := m }

/-- V16 without CET: `0F 34` at the entry point too. -/
def user64Loop : State :=
  user64At [(0x401000, 0x0F), (0x401001, 0x34), (0xFFFFFFFF81000000, 0x0F), (0xFFFFFFFF81000001, 0x34)]

/-- The processor of a next state. -/
def nextCpu : Result → Option Cpu
  | .next t => some t.cpu
  | .fault _ => none
  | .refused _ => none

/-! ## Single steps -/

/-- V1, through the fetch. -/
theorem test_sysenter_v1 : (nextCpu (step user64)).map
    (fun c => (c.rip, c.rsp, c.cs.selector, c.ss.selector, c.cpl, c.cs.l, c.cs.d)) =
    some (0xFFFFFFFF81000000, 0xFFFF800000010000, 0x10, 0x18, 0, true, false) := rfl
/-- V14 (b): a shadow-stack pointer that is not canonical is adjusted, the tracker is armed. -/
theorem test_sysenter_v14b : (nextCpu (exec .sysenter (withCet user64))).map
    (fun c => (c.pl3Ssp, c.ssp, c.sCet.TRACKER, c.sCet.SUPPRESS)) =
    some (0xFFFF800000000008, 0, .waitForEndbranch, false) := by decide
/-- V15 (b): `#UD`, not `#GP(0)`, on a null selector. -/
theorem test_lock_v15b : exec .lockSysenter (user64Cs 0) = .fault .ud := rfl
/-- V15 (c): `#UD` in real-address mode, through the fetch from reset. -/
theorem test_lock_v15c : step (State.reset.withFetchWord 24 0xF00F34) = .fault .ud := rfl

/-! ## Values of the operations -/

/-- V13, with N = 48. -/
theorem test_la_adjust_48 :
    laAdjust 48 0x12347FFFFFFFF000 = 0x7FFFFFFFF000 ∧ laAdjust 48 0xFFFF000000000000 = 0 ∧
    laAdjust 48 0x800000000008 = 0xFFFF800000000008 ∧ canonical 48 0xFFFF800000010000 = true := by decide
/-- V13, with N = 57 and N = 64. -/
theorem test_la_adjust_57_64 :
    laAdjust 57 0x0100000000000000 = 0xFF00000000000000 ∧ canonical 57 0x800000000000 = true ∧
    canonical 64 0x8000000000000001 = true := by decide
/-- V18. -/
theorem test_write_msr_refused : writeMsr .eip 0x800000000000 user64 = .refused .noncanonicalMsrWrite := rfl
/-- E1: the table of evaluations. -/
theorem test_cpuid_rows :
    cpuidTest ⟨true, 6, 1, 2⟩ = false ∧ cpuidTest ⟨true, 6, 1, 9⟩ = true ∧ sepPresentOf ⟨true, 6, 1, 9⟩ = false ∧
    cpuidTest ⟨true, 6, 3, 2⟩ = true ∧ cpuidTest ⟨true, 15, 0, 0⟩ = true ∧ cpuidTest ⟨false, 6, 3, 3⟩ = false := by
  decide
theorem test_msr_addresses : msrAt 0x174 = some .cs ∧ msrAt 0x175 = some .esp ∧ msrAt 0x176 = some .eip ∧
    msrAt 0x177 = none ∧ msrAddress .eip = 0x176 := by decide
/-! ## Witnesses: states that meet the hypotheses of the statements -/

theorem witness_ready64 : user64.Ready := ⟨rfl, rfl, rfl, by decide, rfl⟩
theorem witness_ready32 (vm : Bool) : (user32 vm).Ready := by cases vm <;> exact ⟨rfl, rfl, rfl, by decide, rfl⟩
theorem witness_ready64_cet : (withCet user64).Ready := ⟨rfl, rfl, rfl, by decide, by decide⟩

theorem witness_DecodeAndEncodeAgree :
    Instr.lockSysenter.wf = true ∧ decode [0xF0, 0x0F, 0x34, 0x0F] = .instr .lockSysenter [0x0F] := by decide

theorem witness_PrefixedSysenterIsRefused :
    (∀ b ∈ [lockByte, 0x66], b = lockByte ∨ isOtherPrefix b = true) ∧ (∃ b ∈ [lockByte, 0x66], isOtherPrefix b = true) := by
  decide

theorem witness_StepRunsTheDecodedInstruction :
    Instr.sysenter.wf = true ∧ decode user64.fetchBytes = .instr .sysenter [] := by decide

theorem witness_FetchAddressByMode : user64.mode = .bit64 ∧ (user32 true).mode ≠ .bit64 := by decide

theorem witness_MappedBytesRun :
    (user64.mem.read user64.fetchAddress = some 0x0F ∧ user64.mem.read (user64.fetchAddress + 1) = some 0x34) ∧
    (let s := user64At [(0x401000, 0xF0), (0x401001, 0x0F), (0x401002, 0x34)]
     s.mem.read s.fetchAddress = some 0xF0 ∧ s.mem.read (s.fetchAddress + 1) = some 0x0F ∧
       s.mem.read (s.fetchAddress + 2) = some 0x34) := by decide

theorem witness_FetchAndDecodeRefusals_unmapped :
    (user64At []).mem.read (user64At []).fetchAddress = none ∧
    (let s := user64At [(0x401000, 0x0F)]
     s.mem.read s.fetchAddress = some 0x0F ∧ s.mem.read (s.fetchAddress + 1) = none) ∧
    (let s := user64At [(0x401000, 0xF0)]
     s.mem.read s.fetchAddress = some 0xF0 ∧ s.mem.read (s.fetchAddress + 1) = none) ∧
    (let s := user64At [(0x401000, 0xF0), (0x401001, 0x0F)]
     s.mem.read s.fetchAddress = some 0xF0 ∧ s.mem.read (s.fetchAddress + 1) = some 0x0F ∧
       s.mem.read (s.fetchAddress + 2) = none) := by decide

theorem witness_FetchAndDecodeRefusals_outOfScope :
    (let s := user64At [(0x401000, 0x0F), (0x401001, 0x35)]
     s.mem.read s.fetchAddress = some 0x0F ∧ s.mem.read (s.fetchAddress + 1) = some 0x35 ∧ (0x35 : Byte) ≠ 0x34) ∧
    (let s := user64At [(0x401000, 0xF0), (0x401001, 0x0F), (0x401002, 0x33)]
     s.mem.read s.fetchAddress = some 0xF0 ∧ s.mem.read (s.fetchAddress + 1) = some 0x0F ∧
       s.mem.read (s.fetchAddress + 2) = some 0x33 ∧ (0x33 : Byte) ≠ 0x34) ∧
    (let s := user64At [(0x401000, 0x90)]
     s.mem.read s.fetchAddress = some 0x90 ∧ (0x90 : Byte) ≠ 0x0F ∧ (0x90 : Byte) ≠ lockByte ∧
       isOtherPrefix 0x90 = false) ∧
    (let s := user64At [(0x401000, 0xF0), (0x401001, 0x90)]
     s.mem.read s.fetchAddress = some 0xF0 ∧ s.mem.read (s.fetchAddress + 1) = some 0x90 ∧ (0x90 : Byte) ≠ 0x0F ∧
       (0x90 : Byte) ≠ lockByte ∧ isOtherPrefix 0x90 = false) := by decide

/-- One fetch for each answer of the decoder; the second is `F0 F0 0F` and no more. -/
theorem witness_FetchAndDecodeRefusals_decoded :
    decode (user64At [(0x401000, 0x66), (0x401001, 0x0F), (0x401002, 0x34)]).fetchBytes = .prefixNotInScope ∧
    decode (user64At [(0x401000, 0xF0), (0x401001, 0xF0), (0x401002, 0x0F)]).fetchBytes = .notInScope ∧
    decode (user64At [(0x401000, 0xF0), (0x401001, 0x0F)]).fetchBytes = .needsByte := by decide

theorem witness_FetchAndDecodeRefusals_fetchUnmapped :
    step (user64At [(0x401000, 0xF0), (0x401001, 0x0F)]) = .refused .fetchUnmapped := rfl

theorem witness_PlacingChangesThreeBytesOnly :
    24 / 8 ≤ 3 ∧ Memory.wf user64.mem = true ∧ user64.fetchAddress + 3 ≠ user64.fetchAddress ∧
    user64.fetchAddress + 3 ≠ user64.fetchAddress + 1 ∧ user64.fetchAddress + 3 ≠ user64.fetchAddress + 2 := by decide

/-- A state for each branch: SEP absent, an MSR not canonical, a null selector, real-address mode, ambiguous. -/
theorem witness_SysenterOutcomeInOrder :
    ({ user64 with cfg := { user64.cfg with sepPresent := false } } : State).cfg.sepPresent = false ∧
    canonicalMsrs user64.cfg { user64.cpu with sysenterEip := 0x800000000000 } = false ∧
    (user64Cs 3).cpu.sysenterCs &&& 0xFFFC = 0 ∧ State.reset.cpu.cr0.PE = false ∧
    invokedReading (withCet (user32 true)) ≠ literalReading (withCet (user32 true)) := by decide

theorem witness_SysenterRaisesGpExactlyWhen :
    State.reset.cfg.sepPresent = true ∧ canonicalMsrs State.reset.cfg State.reset.cpu = true ∧
    State.reset.mode = .realAddress := by decide

theorem witness_NullSelectorRaisesGp :
    (user64Cs 3).cfg.sepPresent = true ∧ canonicalMsrs (user64Cs 3).cfg (user64Cs 3).cpu = true ∧
    (user64Cs 3).mode = .bit64 ∧ nullCheckField (user64Cs 3).cpu.sysenterCs = 0 := by decide

theorem witness_LockSysenterRaisesUd :
    user64.cfg.sepPresent = true ∧
    ({ user64 with cfg := { user64.cfg with sepPresent := false } } : State).cfg.sepPresent = false := by decide

theorem witness_FaultsHaveTheTwoCauses :
    step (State.reset.withFetchWord 24 0xF00F34) = .fault .ud ∧
    step (State.reset.withFetchWord 16 0x0F34) = .fault (.gp 0) := ⟨rfl, rfl⟩

theorem witness_StepCompletesExactlyWhen : user64.Ready ∧
    user64.mem.read user64.fetchAddress = some 0x0F ∧ user64.mem.read (user64.fetchAddress + 1) = some 0x34 :=
  ⟨witness_ready64, by decide⟩

theorem witness_SysenterInIa32eMode : user64.Ready ∧ user64.lma = true := ⟨witness_ready64, rfl⟩

theorem witness_SysenterOutsideIa32eMode : (user32 true).Ready ∧ (user32 true).lma = false :=
  ⟨witness_ready32 true, rfl⟩

theorem witness_CodeAndStackSegmentAfterSysenter : (user64Cs 7).Ready := ⟨rfl, rfl, rfl, by decide, rfl⟩

/-- V7 and V4: the selectors at both ends, FFF8H, FFFCH, FFF4H and 0004H. -/
theorem witness_SelectorArithmetic :
    (user64Cs 0xFFF8).Ready ∧ (user64Cs 0xFFFF).Ready ∧ (user64Cs 0xFFF7).Ready ∧ (user64Cs 4).Ready ∧
    [0xFFF8, 0xFFFF, 0xFFF7, 4].map (fun v : Word => clearRpl (selectorField v)) = [0xFFF8, 0xFFFC, 0xFFF4, 4] :=
  ⟨⟨rfl, rfl, rfl, by decide, rfl⟩, ⟨rfl, rfl, rfl, by decide, rfl⟩, ⟨rfl, rfl, rfl, by decide, rfl⟩,
   ⟨rfl, rfl, rfl, by decide, rfl⟩, by decide⟩

theorem witness_FlagsAfterSysenter :
    (user32 true).Ready ∧ (user32 true).mode = .virtual8086 ∧
    ({ user32 true with cpu := { (user32 true).cpu with
      rflags := { VM := false, IF := false, rest := (user32 true).cpu.rflags.rest } } } : State).Ready :=
  ⟨witness_ready32 true, rfl, ⟨rfl, rfl, rfl, by decide, rfl⟩⟩

/-- A state for each row of the table of rule R94. -/
theorem witness_ModeAfterSysenter :
    (State.reset.cfg.sepPresent = true ∧ canonicalMsrs State.reset.cfg State.reset.cpu = true ∧
      State.reset.mode = .realAddress) ∧
    (user64.Ready ∧ user64.mode = .bit64) ∧
    (let s : State := { user64 with cpu := { user64.cpu with cs := { user64.cpu.cs with l := false, d := true } } }
     s.Ready ∧ s.mode = .compatibility) ∧
    ((user32 true).Ready ∧ (user32 true).mode = .virtual8086) ∧
    ((user32 false).Ready ∧ (user32 false).mode = .protectedProper) :=
  ⟨by decide, ⟨witness_ready64, rfl⟩, ⟨⟨rfl, rfl, rfl, by decide, rfl⟩, rfl⟩, ⟨witness_ready32 true, rfl⟩,
   ⟨witness_ready32 false, rfl⟩⟩

theorem witness_SysenterFrame :
    (∃ t, exec .sysenter (withCet user64) = .next t) ∧ (∃ t, exec .sysenter user64 = .next t) ∧
    user64.cfg.cetPresent = false := ⟨⟨_, rfl⟩, ⟨_, rfl⟩, rfl⟩

/-- The caller at level 3, given level 0: a fault, CET absent, and CET on at both levels. -/
theorem witness_NoPrivilegeCheck :
    exec .sysenter (user64Cs 0) = .fault (.gp 0) ∧ (user64.cfg.cetPresent = false ∧ user64.cpu.cpl = 3) ∧
    (let s := withCet user64
     let s' : State := { s with cpu := { s.cpu with cpl := 0 } }
     s.cpu.cpl = 3 ∧ s.cfg.cetRule = .customary ∧ s.Ready ∧ s'.Ready ∧
       shadowStackEnabled s.cfg s'.cpu 0 = shadowStackEnabled s.cfg s.cpu s.cpu.cpl) :=
  ⟨rfl, by decide, rfl, rfl, witness_ready64_cet, ⟨rfl, rfl, rfl, by decide, by decide⟩, by decide⟩

theorem witness_OnlyBits15To2OfTheSelectorMsrCount :
    user64.cfg.cetPresent = false ∧
    (∀ i, 2 ≤ i → i < 16 → (0xFFFFFFFFFFFF0013 : Word).getLsbD i = user64.cpu.sysenterCs.getLsbD i) ∧
    ∃ t, exec .sysenter user64 = .next t :=
  ⟨rfl, by intro i h h'; interval_cases i <;> decide, ⟨_, rfl⟩⟩

theorem witness_SysenterReadsNoMemory :
    (∃ t, exec .sysenter user64 = .next t) ∧ (∃ f, exec .sysenter State.reset = .fault f) ∧
    (∃ r, exec .sysenter (withCet (user32 true)) = .refused r) := ⟨⟨_, rfl⟩, ⟨_, rfl⟩, ⟨_, rfl⟩⟩

theorem witness_LaAdjustBits : 1 ≤ 48 ∧ 48 ≤ 64 ∧ 1 ≤ 1 ∧ 64 ≤ 64 := by decide

theorem witness_SavesTheCallersShadowStackPointer :
    ((withCet user64).Ready ∧
      shadowStackEnabled (withCet user64).cfg (withCet user64).cpu (withCet user64).cpu.cpl = true) ∧
    (user64.Ready ∧ shadowStackEnabled user64.cfg user64.cpu user64.cpu.cpl = false) ∧
    (let s := withCet (user32 true)
     s.cfg.sepPresent = true ∧ canonicalMsrs s.cfg s.cpu = true ∧ s.cpu.cr0.PE = true ∧
       nullCheckField s.cpu.sysenterCs ≠ 0 ∧ invokedReading s ≠ literalReading s) :=
  ⟨⟨witness_ready64_cet, by decide⟩, ⟨witness_ready64, by decide⟩, by decide⟩

/-- A state whose next state has the tracker armed, and one whose next state has not. -/
theorem witness_ClearsSspAndArmsTheTracker :
    ((withCet user64).Ready ∧ ∃ t, exec .sysenter (withCet user64) = .next t ∧
      endbranchEnabled (withCet user64).cfg
        { t.cpu with ss := (withCet user64).cpu.ss, sCet := (withCet user64).cpu.sCet } 0 = true) ∧
    (user64.Ready ∧ ∃ t, exec .sysenter user64 = .next t ∧
      endbranchEnabled user64.cfg { t.cpu with ss := user64.cpu.ss, sCet := user64.cpu.sCet } 0 = false) :=
  ⟨⟨witness_ready64_cet, _, rfl, rfl⟩, ⟨witness_ready64, _, rfl, rfl⟩⟩

theorem witness_CustomaryCetEffects :
    (withCet user64).Ready ∧ (withCet user64).cfg.cetPresent = true ∧ (withCet user64).cfg.cetRule = .customary ∧
    (withCet user64).cpu.rflags.VM = false := ⟨witness_ready64_cet, rfl, rfl, rfl⟩

theorem witness_AmbiguousOnlyFromVirtual8086 :
    let s := withCet (user32 true)
    s.cfg.sepPresent = true ∧ canonicalMsrs s.cfg s.cpu = true ∧ s.cpu.cr0.PE = true ∧
    nullCheckField s.cpu.sysenterCs ≠ 0 ∧ s.cfg.cetRule = .customary := by decide

/-- One state whose pointer is not canonical, and one whose pointer is. -/
theorem witness_SavedShadowStackPointerIsCanonical :
    ((withCet user64).Ready ∧ (withCet user64).cfg.wf = true ∧ (withCet user64).lma = true ∧
      shadowStackEnabled (withCet user64).cfg (withCet user64).cpu (withCet user64).cpu.cpl = true ∧
      canonical (withCet user64).cfg.laWidth (withCet user64).cpu.ssp = false) ∧
    (let s : State := { withCet user64 with cpu := { (withCet user64).cpu with ssp := 0x7F0000001000 } }
     s.Ready ∧ s.cfg.wf = true ∧ s.lma = true ∧ shadowStackEnabled s.cfg s.cpu s.cpu.cpl = true ∧
       canonical s.cfg.laWidth s.cpu.ssp = true) :=
  ⟨⟨witness_ready64_cet, by decide⟩, ⟨⟨rfl, rfl, rfl, by decide, by decide⟩, by decide⟩⟩

theorem witness_SecondEntryLosesTheSavedPointer :
    let s := withCet user64
    s.Ready ∧ s.lma = true ∧ s.cfg.cetPresent = true ∧ s.cfg.cetRule = .customary ∧ s.cpu.cr4.CET = true ∧
    s.cpu.sCet.SH_STK_EN = true ∧ s.cpu.uCet.SH_STK_EN = true ∧ s.cpu.rflags.VM = false :=
  ⟨witness_ready64_cet, by decide⟩

theorem witness_WriteMsrFollowsItsRule :
    canonical user64.cfg.laWidth 0x7FFFFFFFFFFF = true ∧ canonical user64.cfg.laWidth 0x800000000000 = false := by decide

theorem witness_legal64 : user64.Legal := ⟨rfl, rfl, rfl, by decide, by decide, by decide, by decide⟩

theorem witness_WriteMsrKeepsLegal : user64.Legal ∧ ∃ t, writeMsr .eip 0x7FFFFFFFFFFF user64 = .next t :=
  ⟨witness_legal64, _, rfl⟩

theorem witness_CpuidTestOnPentiumPro :
    (⟨true, 6, 1, 9⟩ : CpuidReport).family = 6 ∧ (⟨true, 6, 1, 9⟩ : CpuidReport).model = 1 ∧
    ¬((⟨true, 6, 2, 2⟩ : CpuidReport).family = 6 ∧ (⟨true, 6, 2, 2⟩ : CpuidReport).model = 1) := by decide

theorem witness_EveryStepKeepsLegal : user64.Legal ∧ ∃ t, step user64 = .next t := ⟨witness_legal64, _, rfl⟩

theorem witness_EveryStepEntersTheKernel : ∃ t, step (withCet user64) = .next t := ⟨_, rfl⟩

theorem witness_EveryRunStaysInTheKernel : ∃ t, Sys2Proof.core.run 2 user64Loop = .next t := ⟨_, rfl⟩

theorem witness_NothingOfTheCallerIsSaved :
    user64.cfg.cetPresent = false ∧
    (let s := withCet user64
     let s' : State := { s with cpu := { s.cpu with
       rip := 0, rsp := 0, cs := resetCpu.cs, ss := resetDataSegment, cpl := 0,
       rflags := { VM := false, IF := false, rest := s.cpu.rflags.rest } } }
     s.cfg.cetRule = .customary ∧ s.Ready ∧ s'.Ready ∧
       shadowStackEnabled s.cfg s'.cpu 0 = shadowStackEnabled s.cfg s.cpu s.cpu.cpl) :=
  ⟨rfl, rfl, witness_ready64_cet, ⟨rfl, rfl, rfl, by decide, by decide⟩, by decide⟩

/-- A processor that has CET, with `CR4.CET = 0`. -/
def withCetOff (s : State) : State :=
  { s with cfg := { s.cfg with cetPresent := true }, cpu := { s.cpu with cr4 := { s.cpu.cr4 with CET := false } } }

/-- CET on and shadow stacks on at level 3, off at level 0. -/
def withUserCetOnly (s : State) : State :=
  { withCet s with cpu := { (withCet s).cpu with sCet := { (withCet s).cpu.sCet with SH_STK_EN := false } } }

/-- Both predicates are false where the processor has CET and `CR4.CET = 0`, with the customary definitions. -/
theorem witness_cetPredicatesFalse : (withCetOff user64).CetPredicatesFalse := by
  intro t h p
  have h4 : t.cpu.cr4.CET = false := by rw [h.controls.2.1]; rfl
  have hr : t.cfg.cetRule = .customary := by rw [h.cfg]; rfl
  simp [shadowStackEnabled, endbranchEnabled, hr, shadowStackCustomary, endbranchCustomary, cetActive, h4]

/-- A state for each way of having no shadow stack at level 0. -/
theorem witness_kernelShadowStackOff (s : State) (h : s = user64 ∨ s = user32 true ∨ s = withCetOff user64 ∨
    s = withUserCetOnly user64) : s.KernelShadowStackOff := by
  rcases h with rfl | rfl | rfl | rfl
  · exact .inl rfl
  · exact .inl rfl
  · exact .inr (.inl witness_cetPredicatesFalse)
  · exact .inr (.inr ⟨rfl, rfl⟩)

theorem witness_SysenterRepeatsItself :
    (user64.KernelShadowStackOff ∧ ∃ t, exec .sysenter user64 = .next t ∧ t.lma = true) ∧
    ((user32 true).KernelShadowStackOff ∧ ∃ t, exec .sysenter (user32 true) = .next t ∧ t.lma = false) ∧
    ((withCetOff user64).KernelShadowStackOff ∧ (withCetOff user64).cfg.cetPresent = true ∧
      ∃ t, exec .sysenter (withCetOff user64) = .next t) ∧
    ((withUserCetOnly user64).KernelShadowStackOff ∧ ∃ t, exec .sysenter (withUserCetOnly user64) = .next t) :=
  ⟨⟨witness_kernelShadowStackOff _ (by simp), _, rfl, rfl⟩, ⟨witness_kernelShadowStackOff _ (by simp), _, rfl, rfl⟩,
   ⟨witness_kernelShadowStackOff _ (by simp), rfl, _, rfl⟩, ⟨witness_kernelShadowStackOff _ (by simp), _, rfl⟩⟩

/-- The loop of V16, with CET absent, and with the customary predicates all switched on. -/
theorem witness_EntryPointLoopNeverEnds :
    (user64Loop.KernelShadowStackOff ∧ ∃ t, step user64Loop = .next t ∧
      t.mem.read t.fetchAddress = some 0x0F ∧ t.mem.read (t.fetchAddress + 1) = some 0x34) ∧
    ((withCet user64Loop).cfg.cetRule = .customary ∧ ∃ t, step (withCet user64Loop) = .next t ∧
      t.mem.read t.fetchAddress = some 0x0F ∧ t.mem.read (t.fetchAddress + 1) = some 0x34) :=
  ⟨⟨.inl rfl, _, rfl, rfl, rfl⟩, ⟨rfl, _, rfl, rfl, rfl⟩⟩

/-- A run for each clause: no prefix, LOCK, and both kinds, then a byte of no row; and two LOCK prefixes. -/
theorem witness_BytesOfNoRowAreNotInScope :
    (∀ run ∈ [[], [lockByte], [lockByte, 0x66]], ∀ b ∈ run, b = lockByte ∨ isOtherPrefix b = true) ∧
    ((0x90 : Byte) ≠ escapeByte ∧ (0x90 : Byte) ≠ lockByte ∧ isOtherPrefix 0x90 = false) ∧
    (0x35 : Byte) ≠ sysenterByte ∧
    (2 ≤ [lockByte, lockByte].length ∧ ∀ b ∈ [lockByte, lockByte], b = lockByte) ∧
    ([lockByte, 0x66] ≠ [] ∧ [lockByte, 0x66] ≠ [lockByte]) := by decide

/-- From virtual-8086 mode: CET on, shadow stacks off for the caller, on for level 0. -/
theorem witness_CustomaryCetEffectsFromVirtual8086 :
    let s : State := { withCet (user32 true) with cpu := { (withCet (user32 true)).cpu with
      uCet := { (withCet (user32 true)).cpu.uCet with SH_STK_EN := false } } }
    s.Ready ∧ s.cfg.cetPresent = true ∧ s.cfg.cetRule = .customary ∧ s.cpu.rflags.VM = true :=
  ⟨⟨rfl, rfl, rfl, by decide, by decide⟩, rfl, rfl, rfl⟩

theorem witness_ThirdEntryRepeatsTheSecond :
    let s := withCet (user32 false)
    s.cfg.cetRule = .customary ∧ (∃ t, exec .sysenter s = .next t) ∧ s.cfg.cetPresent = true ∧ s.cpu.cr4.CET = true ∧
    s.cpu.sCet.SH_STK_EN = true := ⟨rfl, ⟨_, rfl⟩, rfl, rfl, rfl⟩

/-- `66 F0 0F 34`, the mapped bytes being all the memory has. -/
theorem witness_PrefixedSysenterInMemoryIsRefused :
    let s := user64At [(0x401000, 0x66), (0x401001, 0xF0), (0x401002, 0x0F), (0x401003, 0x34)]
    let run : List Byte := [0x66, lockByte]
    run.length + 2 ≤ 2 ^ 64 ∧ (∀ b ∈ run, b = lockByte ∨ isOtherPrefix b = true) ∧
    (∃ b ∈ run, isOtherPrefix b = true) ∧
    (∀ k, k < run.length + 2 →
      s.mem.read (s.fetchAddress + BitVec.ofNat 64 k) = (run ++ encode .sysenter)[k]?) := by decide

end Sys2Proof.Tests
end

/-! # Proofs: when an instruction and a step complete, and in which state

Later proofs cite `exec_sysenter_eq_next` and `step_eq_next` and do not unfold `exec` or `step`. -/

namespace Sys2Proof.Machine

section Completion

variable (s t : State)

theorem exec_sysenter_eq : exec .sysenter s = execSysenter s := rfl
theorem exec_lockSysenter_eq : exec .lockSysenter s = execLockSysenter s := rfl

/-- The check of line 1 passes (40_sysenter.md rule R81). -/
theorem entryCheckFails_eq_false (c : Cpu) :
    entryCheckFails c = false ↔ c.cr0.PE = true ∧ nullCheckField c.sysenterCs ≠ 0 := by
  simp [entryCheckFails]

/-- `SYSENTER` completes exactly from the ready states, and in `enterKernel` of the state (40_sysenter.md rule R80). -/
theorem exec_sysenter_eq_next : exec .sysenter s = .next t ↔ s.Ready ∧ enterKernel s = t := by
  rw [exec_sysenter_eq, execSysenter, requireSep_eq_next, requireCanonicalMsrs_eq_next]
  cases hcheck : entryCheckFails s.cpu with
  | true =>
    have hnotReady : ¬ s.Ready := fun hr => by
      have hpass := (entryCheckFails_eq_false s.cpu).2 ⟨hr.notReal, hr.notNull⟩
      simp [hcheck] at hpass
    simp [hnotReady]
  | false =>
    obtain ⟨hpe, hnull⟩ := (entryCheckFails_eq_false s.cpu).1 hcheck
    simp only [Bool.false_eq_true, if_false, requireAgreement_eq_next, Host.Outcome.next.injEq]
    constructor
    · rintro ⟨hsep, hcanon, hagree, ht⟩
      exact ⟨⟨hsep, hcanon, hpe, hnull, hagree⟩, ht⟩
    · rintro ⟨hr, ht⟩
      exact ⟨hr.sep, hr.canon, hr.agree, ht⟩

/-- A ready state enters the kernel. -/
theorem State.Ready.exec_sysenter {s : State} (hr : s.Ready) : exec .sysenter s = .next (enterKernel s) :=
  (exec_sysenter_eq_next s _).2 ⟨hr, rfl⟩

/-- The LOCK form never completes (60_exceptions.md rule R122). -/
theorem exec_lockSysenter_ne_next : exec .lockSysenter s ≠ .next t := by
  simp [exec_lockSysenter_eq, execLockSysenter, requireSep_eq_next]

/-- A step completes exactly where it fetches `SYSENTER` in a ready state (70_reset_and_hazards.md rule R144). -/
theorem step_eq_next :
    step s = .next t ↔ s.fetchDecode = .ok .sysenter ∧ s.Ready ∧ enterKernel s = t := by
  unfold step
  cases s.fetchDecode with
  | error r => simp
  | ok i =>
    cases i with
    | sysenter => simp [exec_sysenter_eq_next]
    | lockSysenter => simp [exec_lockSysenter_ne_next]

end Completion

/-! # Proofs: what `enterKernel` leaves in the fields the invariant and the CET statements speak of -/

section EnterKernel

variable (s : State)

@[simp] theorem enterKernel_rflags :
    (enterKernel s).cpu.rflags = { s.cpu.rflags with VM := false, IF := false } := rfl
@[simp] theorem enterKernel_cs :
    (enterKernel s).cpu.cs = entryCs s.lma (clearRpl (selectorField s.cpu.sysenterCs)) := rfl
@[simp] theorem enterKernel_cr0 : (enterKernel s).cpu.cr0 = s.cpu.cr0 := rfl
@[simp] theorem enterKernel_efer : (enterKernel s).cpu.efer = s.cpu.efer := rfl
@[simp] theorem enterKernel_sysenterEsp : (enterKernel s).cpu.sysenterEsp = s.cpu.sysenterEsp := rfl
@[simp] theorem enterKernel_sysenterEip : (enterKernel s).cpu.sysenterEip = s.cpu.sysenterEip := rfl

/-- The premise `P_canon` reads the address MSRs alone, which an entry keeps (10_state.md rule R23). -/
@[simp] theorem canonicalMsrs_enterKernel (cfg : Config) :
    canonicalMsrs cfg (enterKernel s).cpu = canonicalMsrs cfg s.cpu := rfl

/-- What lines 15 to 17 leave in `IA32_PL3_SSP` is there at the end (40_sysenter.md rule R85). -/
theorem enterKernel_pl3Ssp :
    (enterKernel s).cpu.pl3Ssp =
      if shadowStackEnabled s.cfg s.cpu s.cpu.cpl
      then (if s.lma then laAdjust s.cfg.laWidth s.cpu.ssp else s.cpu.ssp) else s.cpu.pl3Ssp := rfl

end EnterKernel

/-! # Proofs: the invariant `Legal` -/

/-- The invariant holds after an entry: the registers it reads are kept, but `RFLAGS.VM`, which is 0, and `CS`, whose `L`
and `D` are opposite. -/
theorem State.Legal.enterKernel {s : State} (hl : s.Legal) : (enterKernel s).Legal where
  mem := hl.mem
  cfg := hl.cfg
  canon := by simpa using hl.canon
  noIa32e := by simpa using hl.noIa32e
  lmaProtected := by simpa using hl.lmaProtected
  lmaNotVm := by simp
  csSize := by simp

/-- Settles O38: a completed step is an entry to the kernel, which keeps the invariant. -/
theorem everyStepKeepsLegal : Obligations.EveryStepKeepsLegal := by
  intro s t hl hstep
  obtain ⟨-, -, rfl⟩ := (step_eq_next s t).1 hstep
  exact hl.enterKernel

/-- Settles O37: each clause evaluates at reset. -/
theorem resetIsLegal : Obligations.ResetIsLegal where
  mem := reset_mem_wf
  cfg := by decide
  canon := by decide
  noIa32e := by decide
  lmaProtected := by decide
  lmaNotVm := by decide
  csSize := by decide

/-! # Proofs: only bits 15:2 of `IA32_SYSENTER_CS` count -/

section SelectorMsr

variable {v w : Word}

/-- The null check reads bits 15:2 alone (40_sysenter.md rule R81). -/
theorem nullCheckField_congr (h : ∀ i, 2 ≤ i → i < 16 → v.getLsbD i = w.getLsbD i) :
    nullCheckField v = nullCheckField w := by
  apply BitVec.eq_of_getLsbD_eq
  intro i hi
  have hbit := h (2 + i) (by omega) (by omega)
  simp [nullCheckField, hbit]

/-- The code selector SYSENTER loads reads bits 15:2 alone: its mask clears the other two (40_sysenter.md rule R84). -/
theorem clearRpl_selectorField_congr (h : ∀ i, 2 ≤ i → i < 16 → v.getLsbD i = w.getLsbD i) :
    clearRpl (selectorField v) = clearRpl (selectorField w) := by
  have hmask : ∀ i, i < 2 → (0xFFFC : Selector).getLsbD i = false := by decide
  apply BitVec.eq_of_getLsbD_eq
  intro i hi
  by_cases hlow : i < 2
  · simp only [clearRpl, BitVec.getLsbD_and, hmask i hlow, Bool.and_false]
  · have hbit := h i (by omega) hi
    simp [clearRpl, selectorField, hbit]

variable {cfg : Config} (hcet : cfg.cetPresent = false)
include hcet

/-- Line 19 does nothing where CET is absent. -/
theorem clearSsp_of_absent (c : Cpu) : clearSsp cfg c = c := by
  simp [clearSsp, hcet]

/-- Lines 20 to 22 do nothing where CET is absent. -/
theorem armTracker_of_absent (c : Cpu) : armTracker cfg c = c := by
  simp [armTracker, hcet]

/-- With CET absent, lines 2 to 25 use `IA32_SYSENTER_CS` for the code selector alone. -/
theorem throughLine25_setMsr_cs (lma save : Bool) (hiRsp hiRip : BitVec 32) (c : Cpu)
    (hsel : clearRpl (selectorField v) = clearRpl (selectorField c.sysenterCs)) :
    throughLine25 cfg lma save hiRsp hiRip (setMsr .cs v c) =
      setMsr .cs v (throughLine25 cfg lma save hiRsp hiRip c) := by
  simp only [throughLine25, clearSsp_of_absent hcet, armTracker_of_absent hcet, throughLine14, loadCs, loadPointers,
    clearVmIf, saveSsp, enterLevel0, loadSs, setMsr, hsel]

end SelectorMsr

/-- With CET absent, the conditions of a ready state are the premises and the check of line 1. -/
theorem State.Ready.of_cet_absent {s : State} (hcet : s.cfg.cetPresent = false) (hsep : s.cfg.sepPresent = true)
    (hcanon : canonicalMsrs s.cfg s.cpu = true) (hpe : s.cpu.cr0.PE = true)
    (hnull : nullCheckField s.cpu.sysenterCs ≠ 0) : s.Ready :=
  ⟨hsep, hcanon, hpe, hnull, by simp [invokedReading, literalReading, hcet]⟩

/-- With CET absent, an entry with another `IA32_SYSENTER_CS` of the same code selector differs in that MSR alone. -/
theorem enterKernel_setMsr_cs {s : State} {v : Word} (hcet : s.cfg.cetPresent = false)
    (hsel : clearRpl (selectorField v) = clearRpl (selectorField s.cpu.sysenterCs)) :
    enterKernel { s with cpu := setMsr .cs v s.cpu } =
      { enterKernel s with cpu := setMsr .cs v (enterKernel s).cpu } := by
  have hreading : invokedReading { s with cpu := setMsr .cs v s.cpu } = invokedReading s := by
    simp [invokedReading, hcet]
  have hcpu := throughLine25_setMsr_cs hcet s.lma (invokedReading s) (freeHighRsp s) (freeHighRip s) s.cpu hsel
  rw [enterKernel, hreading]
  exact congrArg (fun c => { enterKernel s with cpu := c }) hcpu

/-- Settles O25: the other value passes the null check and gives the same code selector. -/
theorem onlyBits15To2OfTheSelectorMsrCount : Obligations.OnlyBits15To2OfTheSelectorMsrCount := by
  intro s t v hcet hbits hexec
  obtain ⟨hr, rfl⟩ := (exec_sysenter_eq_next s t).1 hexec
  have hnull : nullCheckField v ≠ 0 := nullCheckField_congr hbits ▸ hr.notNull
  have hr' : State.Ready { s with cpu := setMsr .cs v s.cpu } :=
    .of_cet_absent hcet hr.sep hr.canon hr.notReal hnull
  have hsel := clearRpl_selectorField_congr hbits
  calc exec .sysenter { s with cpu := setMsr .cs v s.cpu }
    _ = .next (enterKernel { s with cpu := setMsr .cs v s.cpu }) := hr'.exec_sysenter
    _ = .next { enterKernel s with cpu := setMsr .cs v (enterKernel s).cpu } := by
      rw [enterKernel_setMsr_cs hcet hsel]

/-! # Proofs: `LA_adjust` and canonical addresses -/

section LaAdjust

variable {n : Nat} (v : Word)

/-- Every bit of `LA_adjust(v)` is a bit of `v` (10_state.md rule R29). -/
theorem getLsbD_laAdjust (hn : 1 ≤ n) {i : Nat} (hi : i < 64) :
    (laAdjust n v).getLsbD i = v.getLsbD (if i < n then i else n - 1) := by
  have hlast : n - 1 < n := by omega
  simp only [laAdjust, BitVec.getLsbD_signExtend, BitVec.msb_eq_getLsbD_last, BitVec.getLsbD_setWidth, hi, hlast]
  split <;> simp [*]

/-- Canonical is: unchanged by `LA_adjust` (GK8). -/
theorem canonical_iff : canonical n v = true ↔ laAdjust n v = v := by
  simp [canonical]

/-- `LA_adjust` gives a canonical address: a second adjustment finds every bit in place. -/
theorem canonical_laAdjust (hn : 1 ≤ n) : canonical n (laAdjust n v) = true := by
  rw [canonical_iff]
  apply BitVec.eq_of_getLsbD_eq
  intro i hi
  rw [getLsbD_laAdjust _ hn hi, getLsbD_laAdjust v hn hi]
  split
  next hlow => rw [getLsbD_laAdjust v hn hi, if_pos hlow]
  next hhigh => rw [getLsbD_laAdjust v hn (by omega), if_pos (by omega)]

/-- Canonical is: the bits from `N` on are copies of bit `N-1`. -/
theorem canonical_iff_getLsbD (hn : 1 ≤ n) :
    canonical n v = true ↔ ∀ i, n ≤ i → i < 64 → v.getLsbD i = v.getLsbD (n - 1) := by
  rw [canonical_iff]
  constructor
  · intro hadj i hni hi
    have hbit := getLsbD_laAdjust v hn hi
    rwa [hadj, if_neg (by omega)] at hbit
  · intro hcopies
    apply BitVec.eq_of_getLsbD_eq
    intro i hi
    rw [getLsbD_laAdjust v hn hi]
    split
    next => rfl
    next hhigh => exact (hcopies i (by omega) hi).symm

end LaAdjust

/-- The parameters are legal exactly with a width from 1 to 64 (00_scope.md rule R4). -/
theorem config_wf_iff (cfg : Config) : cfg.wf = true ↔ 1 ≤ cfg.laWidth ∧ cfg.laWidth ≤ 64 := by
  simp [Config.wf]

/-- Settles O27: bit by bit from `getLsbD_laAdjust`; for `N = 64` no bit is left to be a copy. -/
theorem laAdjustBits : Obligations.LaAdjustBits := by
  intro n v hn hn64
  have hlow : ∀ i, i < n → (laAdjust n v).getLsbD i = v.getLsbD i := fun i hi => by
    rw [getLsbD_laAdjust v hn (by omega), if_pos hi]
  have hhigh : ∀ i, n ≤ i → i < 64 → (laAdjust n v).getLsbD i = v.getLsbD (n - 1) := fun i hni hi => by
    rw [getLsbD_laAdjust v hn hi, if_neg (by omega)]
  have hall : n = 64 → canonical n v = true := fun h64 =>
    (canonical_iff_getLsbD v hn).2 fun i hni hi => by omega
  exact ⟨hlow, hhigh, canonical_iff v, canonical_iff_getLsbD v hn,
    fun h64 => ⟨hall h64, (canonical_iff v).1 (hall h64)⟩⟩

/-! # Proofs: the effects of Control-flow Enforcement Technology -/

/-- Settles O32: what is saved is `LA_adjust` of the caller's `SSP`. -/
theorem savedShadowStackPointerIsCanonical : Obligations.SavedShadowStackPointerIsCanonical := by
  intro s hr hcfg hlma henabled
  have hsaved : (enterKernel s).cpu.pl3Ssp = laAdjust s.cfg.laWidth s.cpu.ssp := by
    rw [enterKernel_pl3Ssp, if_pos henabled, if_pos hlma]
  obtain ⟨hwidth, -⟩ := (config_wf_iff _).1 hcfg
  refine ⟨_, hr.exec_sysenter, ?_, fun hcanon => ?_⟩
  · rw [hsaved]
    exact canonical_laAdjust _ hwidth
  · rw [hsaved]
    exact (canonical_iff _).1 hcanon

section Customary

variable {cfg : Config} (hcet : cfg.cetPresent = true) (hrule : cfg.cetRule = .customary)
include hcet hrule

/-- Where CET is present and customary, `ShadowStackEnabled` is the definition of 10_state.md rule R28. -/
theorem shadowStackEnabled_of_customary (c : Cpu) (p : Privilege) :
    shadowStackEnabled cfg c p = shadowStackCustomary c p := by
  simp [shadowStackEnabled, hcet, hrule]

/-- Where CET is present and customary, `EndbranchEnabled` is the definition of 10_state.md rule R28. -/
theorem endbranchEnabled_of_customary (c : Cpu) (p : Privilege) :
    endbranchEnabled cfg c p = endbranchCustomary c p := by
  simp [endbranchEnabled, hcet, hrule]

end Customary

section CustomaryEntry

variable {s : State} (hr : s.Ready) (hcet : s.cfg.cetPresent = true) (hrule : s.cfg.cetRule = .customary)
include hr hcet hrule

/-- Line 19 with the customary predicate: it sees `CR0.PE = 1` and the `RFLAGS.VM = 0` of line 2 (40_sysenter.md rule
R87). -/
theorem enterKernel_ssp_of_customary :
    (enterKernel s).cpu.ssp = if s.cpu.cr4.CET && s.cpu.sCet.SH_STK_EN then 0 else s.cpu.ssp := by
  simp [enterKernel, throughLine25, throughLine14, shadowStackEnabled_of_customary hcet hrule, shadowStackCustomary,
    cetActive, hr.notReal]

/-- Lines 20 to 22 with the customary predicate, likewise (40_sysenter.md rule R88). -/
theorem enterKernel_sCet_of_customary :
    (enterKernel s).cpu.sCet = if s.cpu.cr4.CET && s.cpu.sCet.ENDBR_EN
      then { s.cpu.sCet with TRACKER := .waitForEndbranch, SUPPRESS := false } else s.cpu.sCet := by
  simp [enterKernel, throughLine25, throughLine14, endbranchEnabled_of_customary hcet hrule, endbranchCustomary,
    cetActive, hr.notReal]

end CustomaryEntry

/-- Settles O30: with `VM = 0` the first predicate is `CR4.CET` and the enable bit of the caller's level. -/
theorem customaryCetEffects : Obligations.CustomaryCetEffects := by
  intro s hr hcet hrule hvm
  have hfirst : shadowStackEnabled s.cfg s.cpu s.cpu.cpl =
      (s.cpu.cr4.CET && (if s.cpu.cpl = 3 then s.cpu.uCet.SH_STK_EN else s.cpu.sCet.SH_STK_EN)) := by
    simp [shadowStackEnabled_of_customary hcet hrule, shadowStackCustomary, cetActive, hr.notReal, hvm]
  exact ⟨_, hr.exec_sysenter, enterKernel_ssp_of_customary hr hcet hrule,
    enterKernel_sCet_of_customary hr hcet hrule, by rw [enterKernel_pl3Ssp, hfirst]⟩

/-- Settles O45: with `VM = 1` the first predicate, read on the caller's state, is false. -/
theorem customaryCetEffectsFromVirtual8086 : Obligations.CustomaryCetEffectsFromVirtual8086 := by
  intro s hr hcet hrule hvm
  have hfirst : shadowStackEnabled s.cfg s.cpu s.cpu.cpl = false := by
    simp [shadowStackEnabled_of_customary hcet hrule, shadowStackCustomary, cetActive, hvm]
  exact ⟨_, hr.exec_sysenter, by simp [enterKernel_pl3Ssp, hfirst],
    enterKernel_ssp_of_customary hr hcet hrule, enterKernel_sCet_of_customary hr hcet hrule⟩

end Sys2Proof.Machine

/-! # Proofs: where a step fetches, and which bytes -/

namespace Sys2Proof.Machine

section FetchAddress

variable (s : State)

theorem toNat_low32 (v : Word) : (low32 v).toNat = v.toNat % 2 ^ 32 := by simp [low32]

theorem toNat_zext64 (v : BitVec 32) : (zext64 v).toNat = v.toNat := by
  have hlt : v.toNat < 2 ^ 32 := v.isLt
  simp only [zext64, BitVec.toNat_setWidth]
  omega

/-- In 64-bit mode the code segment plays no part (20_memory.md rule R43). -/
theorem fetchAddress_of_bit64 (hmode : s.mode = .bit64) : s.fetchAddress = s.cpu.rip := by
  simp [State.fetchAddress, hmode]

/-- The four other modes share one formula (20_memory.md rule R43). -/
theorem fetchAddress_of_ne_bit64 (hmode : s.mode ≠ .bit64) :
    s.fetchAddress = zext64 (low32 (s.cpu.cs.base + zext64 (low32 s.cpu.rip))) := by
  unfold State.fetchAddress
  cases hm : s.mode with
  | bit64 => exact absurd hm hmode
  | realAddress | protectedProper | virtual8086 | compatibility => rfl

end FetchAddress

/-- Settles O5: the wrap of the 64-bit sum is a multiple of 2^32. -/
theorem fetchAddressByMode : Obligations.FetchAddressByMode := by
  intro s
  refine ⟨fetchAddress_of_bit64 s, fun hmode => ?_⟩
  rw [fetchAddress_of_ne_bit64 s hmode, toNat_zext64, toNat_low32, BitVec.toNat_add, toNat_zext64, toNat_low32]
  omega

section FetchBytes

variable {m : Memory} {n : Nat} {a : Word} {b c d : Byte} {bs : List Byte} {s : State}

/-- Nothing is fetched exactly where the first byte is absent. -/
theorem bytesFrom_succ_eq_nil : bytesFrom m (n + 1) a = [] ↔ Memory.read m a = none := by
  cases hread : Memory.read m a with
  | none => simp [bytesFrom_of_unmapped, hread]
  | some b => simp [bytesFrom_of_mapped, hread]

/-- What is fetched begins with a byte exactly where that byte is mapped. -/
theorem bytesFrom_succ_eq_cons :
    bytesFrom m (n + 1) a = b :: bs ↔ Memory.read m a = some b ∧ bytesFrom m n (a + 1) = bs := by
  cases hread : Memory.read m a with
  | none => simp [bytesFrom_of_unmapped, hread]
  | some b => simp [bytesFrom_of_mapped, hread]

/-- The window of a fetch holds the longest instruction (30_encoding.md rule R65). -/
theorem fetchBytes_eq_bytesFrom : s.fetchBytes = bytesFrom s.mem (s.mem.length + 3) s.fetchAddress := rfl

theorem fetchBytes_eq_nil : s.fetchBytes = [] ↔ s.mem.read s.fetchAddress = none := by
  rw [fetchBytes_eq_bytesFrom, bytesFrom_succ_eq_nil]

theorem fetchBytes_eq_singleton :
    s.fetchBytes = [b] ↔ s.mem.read s.fetchAddress = some b ∧ s.mem.read (s.fetchAddress + 1) = none := by
  rw [fetchBytes_eq_bytesFrom, bytesFrom_succ_eq_cons, bytesFrom_succ_eq_nil]

theorem add_one_add_one (a : Word) : a + 1 + 1 = a + 2 := BitVec.add_assoc a 1 1

theorem fetchBytes_eq_pair :
    s.fetchBytes = [b, c] ↔ s.mem.read s.fetchAddress = some b ∧ s.mem.read (s.fetchAddress + 1) = some c ∧
      s.mem.read (s.fetchAddress + 2) = none := by
  rw [fetchBytes_eq_bytesFrom, bytesFrom_succ_eq_cons, bytesFrom_succ_eq_cons, bytesFrom_succ_eq_nil, add_one_add_one]

/-- A mapped byte at the fetch address begins the fetch. -/
theorem fetchBytes_of_one_mapped (hb : s.mem.read s.fetchAddress = some b) : ∃ rest, s.fetchBytes = b :: rest :=
  ⟨_, bytesFrom_succ_eq_cons.2 ⟨hb, rfl⟩⟩

/-- Two bytes mapped in increasing address order begin the fetch in that order (20_memory.md rule R44). -/
theorem fetchBytes_of_two_mapped (hb : s.mem.read s.fetchAddress = some b)
    (hc : s.mem.read (s.fetchAddress + 1) = some c) : ∃ rest, s.fetchBytes = b :: c :: rest :=
  ⟨_, bytesFrom_succ_eq_cons.2 ⟨hb, bytesFrom_succ_eq_cons.2 ⟨hc, rfl⟩⟩⟩

/-- Three bytes mapped in increasing address order begin the fetch in that order (20_memory.md rule R44). -/
theorem fetchBytes_of_three_mapped (hb : s.mem.read s.fetchAddress = some b)
    (hc : s.mem.read (s.fetchAddress + 1) = some c) (hd : s.mem.read (s.fetchAddress + 2) = some d) :
    ∃ rest, s.fetchBytes = b :: c :: d :: rest := by
  rw [← add_one_add_one] at hd
  exact ⟨_, bytesFrom_succ_eq_cons.2 ⟨hb, bytesFrom_succ_eq_cons.2 ⟨hc, bytesFrom_succ_eq_cons.2 ⟨hd, rfl⟩⟩⟩⟩

end FetchBytes

/-! # Proofs: the decoder, byte by byte -/

section Decoder

variable {b : Byte} {bs : List Byte} {found : List Byte → Decoded}

theorem decode_escapeByte : decode (escapeByte :: bs) = decodeAfterEscape (.instr .sysenter) bs := rfl
theorem decode_lockByte : decode (lockByte :: bs) = decodeLocked bs := rfl
theorem decodeLocked_escapeByte :
    decodeLocked (escapeByte :: bs) = decodeAfterEscape (.instr .lockSysenter) bs := rfl

/-- The decoder answers an instruction on its encoding and leaves the bytes after it (30_encoding.md rule R65). -/
theorem decode_encode_append (i : Instr) (rest : List Byte) : decode (encode i ++ rest) = .instr i rest := by
  cases i with
  | sysenter => rfl
  | lockSysenter => rfl

/-- After 0FH, another byte than 34H is no row (30_encoding.md rule R68). -/
theorem decodeAfterEscape_of_ne (hb : b ≠ sysenterByte) : decodeAfterEscape found (b :: bs) = .notInScope := by
  simp [decodeAfterEscape, hb]

/-- A first byte that is neither 0FH nor among the prefixes is no row (30_encoding.md rule R68). -/
theorem decode_of_no_row (hescape : b ≠ escapeByte) (hlock : b ≠ lockByte) (hprefix : isOtherPrefix b = false) :
    decode (b :: bs) = .notInScope := by
  simp [decode, hescape, hlock, hprefix]

/-- After one LOCK byte, a byte that is neither 0FH nor among the prefixes is no row (30_encoding.md rule R68). -/
theorem decodeLocked_of_no_row (hescape : b ≠ escapeByte) (hlock : b ≠ lockByte) (hprefix : isOtherPrefix b = false) :
    decodeLocked (b :: bs) = .notInScope := by
  simp [decodeLocked, hescape, hlock, hprefix]

/-- After a run of prefixes that begins no row, no byte is needed (20_memory.md rule R43). -/
theorem decodePrefixed_ne_needsByte (other : Bool) : decodePrefixed other bs ≠ .needsByte := by
  rcases decodePrefixed_cases other bs with h | h <;> simp [h]

/-- After 0FH, a byte is needed exactly where none follows. -/
theorem decodeAfterEscape_eq_needsByte (hfound : ∀ rest, found rest ≠ .needsByte) :
    decodeAfterEscape found bs = .needsByte ↔ bs = [] := by
  cases bs with
  | nil => simp [decodeAfterEscape]
  | cons b rest =>
    simp only [decodeAfterEscape]
    split <;> simp [hfound]

/-- After one LOCK byte, a byte is needed where none follows, or 0FH and no more. -/
theorem decodeLocked_eq_needsByte : decodeLocked bs = .needsByte ↔ bs = [] ∨ bs = [escapeByte] := by
  cases bs with
  | nil => simp [decodeLocked]
  | cons b rest =>
    simp only [decodeLocked]
    split
    next hb => simp [hb, decodeAfterEscape_eq_needsByte]
    next hb =>
      split
      · simp [hb, decodePrefixed_ne_needsByte]
      · split <;> simp [hb, decodePrefixed_ne_needsByte]

/-- A byte is needed exactly after the four byte lists that begin a row without being one (20_memory.md rule R43). -/
theorem decode_eq_needsByte :
    decode bs = .needsByte ↔ bs = [] ∨ bs = [escapeByte] ∨ bs = [lockByte] ∨ bs = [lockByte, escapeByte] := by
  cases bs with
  | nil => simp [decode]
  | cons b rest =>
    have hdistinct : lockByte ≠ escapeByte := by decide
    simp only [decode]
    split
    next hb => simp [hb, hdistinct.symm, decodeAfterEscape_eq_needsByte]
    next hb =>
      split
      next hb' => simp [hb', hdistinct, decodeLocked_eq_needsByte]
      next hb' => split <;> simp [hb, hb', decodePrefixed_ne_needsByte]

end Decoder

/-! # Proofs: which refusals an instruction answers, and which a step -/

section Refusals

variable (s : State) (k : Result) (r : Refusal)

/-- Where `requireSep` refuses, the instruction is absent or the rest refuses. -/
theorem requireSep_eq_refused : requireSep s k = .refused r ↔
    (s.cfg.sepPresent = false ∧ r = .sepAbsent) ∨ (s.cfg.sepPresent = true ∧ k = .refused r) := by
  unfold requireSep
  split <;> simp [*, @eq_comm _ r]

/-- Where `requireCanonicalMsrs` refuses, `P_canon` fails or the rest refuses. -/
theorem requireCanonicalMsrs_eq_refused : requireCanonicalMsrs s k = .refused r ↔
    (canonicalMsrs s.cfg s.cpu = false ∧ r = .noncanonicalMsr) ∨
      (canonicalMsrs s.cfg s.cpu = true ∧ k = .refused r) := by
  unfold requireCanonicalMsrs
  split <;> simp [*, @eq_comm _ r]

/-- Where `requireAgreement` refuses, the two readings differ or the rest refuses. -/
theorem requireAgreement_eq_refused (x y : Bool) : requireAgreement x y k = .refused r ↔
    (x ≠ y ∧ r = .cetPredicateAmbiguous) ∨ (x = y ∧ k = .refused r) := by
  simp only [requireAgreement, beq_iff_eq]
  split <;> simp [*, @eq_comm _ r]

/-- `SYSENTER` raises `#GP(0)` and no other exception: the check of line 1 fails under the premises (40_sysenter.md rule
R81). -/
theorem exec_sysenter_eq_fault (f : Fault) : exec .sysenter s = .fault f ↔
    s.cfg.sepPresent = true ∧ canonicalMsrs s.cfg s.cpu = true ∧ entryCheckFails s.cpu = true ∧ f = .gp 0 := by
  rw [exec_sysenter_eq, execSysenter, requireSep_eq_fault, requireCanonicalMsrs_eq_fault]
  cases entryCheckFails s.cpu with
  | true => simp [raise, @eq_comm _ f]
  | false => simp [requireAgreement_eq_fault]

/-- The three refusals of `SYSENTER`, each behind the checks before it (70_reset_and_hazards.md rule R144). -/
theorem exec_sysenter_eq_refused : exec .sysenter s = .refused r ↔
    (s.cfg.sepPresent = false ∧ r = .sepAbsent) ∨ (s.cfg.sepPresent = true ∧
      ((canonicalMsrs s.cfg s.cpu = false ∧ r = .noncanonicalMsr) ∨ (canonicalMsrs s.cfg s.cpu = true ∧
        entryCheckFails s.cpu = false ∧ invokedReading s ≠ literalReading s ∧ r = .cetPredicateAmbiguous))) := by
  rw [exec_sysenter_eq, execSysenter, requireSep_eq_refused, requireCanonicalMsrs_eq_refused]
  cases entryCheckFails s.cpu with
  | true => simp [raise]
  | false => simp [requireAgreement_eq_refused]

/-- The one refusal of the LOCK form (00_scope.md rule R2). -/
theorem exec_lockSysenter_eq_refused :
    exec .lockSysenter s = .refused r ↔ s.cfg.sepPresent = false ∧ r = .sepAbsent := by
  simp [exec_lockSysenter_eq, execLockSysenter, requireSep_eq_refused, raise]

/-- No instruction refuses for want of a byte: that is the fetch's refusal alone. -/
theorem exec_ne_fetchUnmapped (i : Instr) : exec i s ≠ .refused .fetchUnmapped := by
  cases i with
  | sysenter => simp [exec_sysenter_eq_refused]
  | lockSysenter => simp [exec_lockSysenter_eq_refused]

end Refusals

section StepOfDecode

variable {s : State}

theorem step_of_decode_eq_instr {i : Instr} {rest : List Byte} (h : decode s.fetchBytes = .instr i rest) :
    step s = exec i s := by
  simp [step, (fetchDecode_eq_ok s i).2 ⟨rest, h⟩]

theorem step_of_decode_eq_prefixNotInScope (h : decode s.fetchBytes = .prefixNotInScope) :
    step s = .refused .prefixNotInScope := by
  simp [step, State.fetchDecode, h]

theorem step_of_decode_eq_notInScope (h : decode s.fetchBytes = .notInScope) : step s = .refused .notInScope := by
  simp [step, State.fetchDecode, h]

theorem step_of_decode_eq_needsByte (h : decode s.fetchBytes = .needsByte) : step s = .refused .fetchUnmapped := by
  simp [step, State.fetchDecode, h]

/-- A step is refused as `fetch_unmapped` exactly where the decoder needs a byte (20_memory.md rule R43). -/
theorem step_eq_fetchUnmapped : step s = .refused .fetchUnmapped ↔ decode s.fetchBytes = .needsByte := by
  refine ⟨fun hstep => ?_, step_of_decode_eq_needsByte⟩
  cases hdec : decode s.fetchBytes with
  | needsByte => rfl
  | instr i rest =>
    rw [step_of_decode_eq_instr hdec] at hstep
    exact absurd hstep (exec_ne_fetchUnmapped s i)
  | prefixNotInScope => simp [step_of_decode_eq_prefixNotInScope hdec] at hstep
  | notInScope => simp [step_of_decode_eq_notInScope hdec] at hstep

/-- The four places at which a needed byte can be missing (20_memory.md rule R43). -/
theorem step_eq_fetchUnmapped_iff_read : step s = .refused .fetchUnmapped ↔
    s.mem.read s.fetchAddress = none ∨
    (s.mem.read s.fetchAddress = some escapeByte ∧ s.mem.read (s.fetchAddress + 1) = none) ∨
    (s.mem.read s.fetchAddress = some lockByte ∧ s.mem.read (s.fetchAddress + 1) = none) ∨
    (s.mem.read s.fetchAddress = some lockByte ∧ s.mem.read (s.fetchAddress + 1) = some escapeByte ∧
      s.mem.read (s.fetchAddress + 2) = none) := by
  rw [step_eq_fetchUnmapped, decode_eq_needsByte, fetchBytes_eq_nil, fetchBytes_eq_singleton,
    fetchBytes_eq_singleton, fetchBytes_eq_pair]

end StepOfDecode

/-- Settles O6: the bytes of an encoding, mapped in increasing address order, begin what is fetched. -/
theorem mappedBytesRun : Obligations.MappedBytesRun := by
  intro s
  constructor
  · intro hescape hsysenter
    obtain ⟨rest, hfetch⟩ := fetchBytes_of_two_mapped hescape hsysenter
    apply step_of_decode_eq_instr
    rw [hfetch]
    exact decode_encode_append .sysenter rest
  · intro hlock hescape hsysenter
    obtain ⟨rest, hfetch⟩ := fetchBytes_of_three_mapped hlock hescape hsysenter
    apply step_of_decode_eq_instr
    rw [hfetch]
    exact decode_encode_append .lockSysenter rest

section BytesOfNoRow

variable {s : State} {b : Byte}

/-- `0F`, then another byte than `34`. -/
theorem step_of_escape_of_ne (hescape : s.mem.read s.fetchAddress = some escapeByte)
    (hread : s.mem.read (s.fetchAddress + 1) = some b) (hb : b ≠ sysenterByte) : step s = .refused .notInScope := by
  obtain ⟨rest, hfetch⟩ := fetchBytes_of_two_mapped hescape hread
  apply step_of_decode_eq_notInScope
  rw [hfetch, decode_escapeByte, decodeAfterEscape_of_ne hb]

/-- `F0 0F`, then another byte than `34`. -/
theorem step_of_lock_escape_of_ne (hlock : s.mem.read s.fetchAddress = some lockByte)
    (hescape : s.mem.read (s.fetchAddress + 1) = some escapeByte)
    (hread : s.mem.read (s.fetchAddress + 2) = some b) (hb : b ≠ sysenterByte) : step s = .refused .notInScope := by
  obtain ⟨rest, hfetch⟩ := fetchBytes_of_three_mapped hlock hescape hread
  apply step_of_decode_eq_notInScope
  rw [hfetch, decode_lockByte, decodeLocked_escapeByte, decodeAfterEscape_of_ne hb]

variable (hescape : b ≠ escapeByte) (hlock : b ≠ lockByte) (hprefix : isOtherPrefix b = false)
include hescape hlock hprefix

/-- A first byte that is neither `0F` nor among the prefixes. -/
theorem step_of_no_row (hread : s.mem.read s.fetchAddress = some b) : step s = .refused .notInScope := by
  obtain ⟨rest, hfetch⟩ := fetchBytes_of_one_mapped hread
  apply step_of_decode_eq_notInScope
  rw [hfetch, decode_of_no_row hescape hlock hprefix]

/-- `F0`, then a byte that is neither `0F` nor among the prefixes. -/
theorem step_of_lock_of_no_row (hfirst : s.mem.read s.fetchAddress = some lockByte)
    (hread : s.mem.read (s.fetchAddress + 1) = some b) : step s = .refused .notInScope := by
  obtain ⟨rest, hfetch⟩ := fetchBytes_of_two_mapped hfirst hread
  apply step_of_decode_eq_notInScope
  rw [hfetch, decode_lockByte, decodeLocked_of_no_row hescape hlock hprefix]

end BytesOfNoRow

/-- Settles O7: the clauses on `fetch_unmapped` are the two directions of `step_eq_fetchUnmapped_iff_read`. -/
theorem fetchAndDecodeRefusals : Obligations.FetchAndDecodeRefusals := by
  intro s
  exact ⟨fun hnone => step_eq_fetchUnmapped_iff_read.2 (.inl hnone),
    fun hescape hnone => step_eq_fetchUnmapped_iff_read.2 (.inr (.inl ⟨hescape, hnone⟩)),
    fun hlock hnone => step_eq_fetchUnmapped_iff_read.2 (.inr (.inr (.inl ⟨hlock, hnone⟩))),
    fun hlock hescape hnone => step_eq_fetchUnmapped_iff_read.2 (.inr (.inr (.inr ⟨hlock, hescape, hnone⟩))),
    fun _ hescape hread hb => step_of_escape_of_ne hescape hread hb,
    fun _ hlock hescape hread hb => step_of_lock_escape_of_ne hlock hescape hread hb,
    fun _ hread hescape hlock hprefix => step_of_no_row hescape hlock hprefix hread,
    fun _ hfirst hread hescape hlock hprefix => step_of_lock_of_no_row hescape hlock hprefix hfirst hread,
    step_of_decode_eq_prefixNotInScope, step_of_decode_eq_notInScope, step_of_decode_eq_needsByte,
    step_eq_fetchUnmapped_iff_read.1⟩

/-! # Proofs: what placing an instruction changes -/

theorem length_tableBytes (w n : Nat) : (tableBytes w n).length = n := by
  induction n with
  | zero => rfl
  | succ n ih => simp [tableBytes, ih]

/-- A word of at most three bytes is stored as exactly three. -/
theorem length_instructionBytes {nbits : Nat} (w : Nat) (h : nbits / 8 ≤ 3) : (instructionBytes nbits w).length = 3 := by
  simp only [instructionBytes, longestInstr, List.length_append, length_tableBytes, List.length_replicate]
  omega

/-- Settles O9: the loader writes three bytes, and `writeBytes` keeps the canonical form and the other addresses. -/
theorem placingChangesThreeBytesOnly : Obligations.PlacingChangesThreeBytesOnly := by
  intro s nbits w hw
  refine ⟨Memory.wf_writeBytes _ _ _, rfl, rfl, rfl, fun a h0 h1 h2 => ?_⟩
  apply Memory.read_writeBytes_other
  rw [length_instructionBytes w hw]
  intro k hk
  match k, hk with
  | 0, _ => simpa using h0
  | 1, _ => exact h1
  | 2, _ => exact h2

/-! # Proofs: `SYSENTER` reads no memory -/

section OtherMemory

variable {s : State} (m : Memory)

/-- The conditions of a ready state are on the parameters, the processor and the draw counter. -/
theorem State.Ready.withMem (hr : s.Ready) : State.Ready { s with mem := m } :=
  ⟨hr.sep, hr.canon, hr.notReal, hr.notNull, hr.agree⟩

theorem enterKernel_withMem : enterKernel { s with mem := m } = { enterKernel s with mem := m } := rfl

end OtherMemory

/-- Settles O26: the condition of each outcome names no memory, and an entry carries it through. -/
theorem sysenterReadsNoMemory : Obligations.SysenterReadsNoMemory := by
  intro s m
  refine ⟨fun t hnext => ?_, fun f hfault => ?_, fun r hrefused => ?_⟩
  · obtain ⟨hr, rfl⟩ := (exec_sysenter_eq_next s t).1 hnext
    rw [(hr.withMem m).exec_sysenter, enterKernel_withMem]
  · exact (exec_sysenter_eq_fault _ f).2 ((exec_sysenter_eq_fault s f).1 hfault)
  · exact (exec_sysenter_eq_refused _ r).2 ((exec_sysenter_eq_refused s r).1 hrefused)

end Sys2Proof.Machine

/-! # Proofs: which byte lists decode to an instruction -/

namespace Sys2Proof.Machine

section DecodedInstructions

variable {i j : Instr} {bs rest : List Byte}

/-- After 0FH, the instruction found is answered exactly where 34H follows (30_encoding.md rule R65). -/
theorem decodeAfterEscape_eq_instr :
    decodeAfterEscape (.instr j) bs = .instr i rest ↔ j = i ∧ bs = sysenterByte :: rest := by
  cases bs with
  | nil => simp [decodeAfterEscape]
  | cons b tail =>
    simp only [decodeAfterEscape]
    split
    next hb => simp [hb]
    next hb => simp [hb]

/-- A run of prefixes that begins no row is never an instruction (30_encoding.md rule R68). -/
theorem decodePrefixed_ne_instr (other : Bool) : decodePrefixed other bs ≠ .instr i rest := by
  rcases decodePrefixed_cases other bs with h | h <;> simp [h]

/-- After one LOCK byte, the only instruction is the LOCK form (30_encoding.md rule R63). -/
theorem decodeLocked_eq_instr :
    decodeLocked bs = .instr i rest ↔ .lockSysenter = i ∧ bs = escapeByte :: sysenterByte :: rest := by
  cases bs with
  | nil => simp [decodeLocked]
  | cons b tail =>
    simp only [decodeLocked]
    split
    next hb => simp [hb, decodeAfterEscape_eq_instr]
    next hb =>
      split
      · simp [hb, decodePrefixed_ne_instr]
      · split <;> simp [hb, decodePrefixed_ne_instr]

/-- Whatever instruction the decoder answers, the bytes are its encoding and those left (30_encoding.md rule R68). -/
theorem eq_encode_append_of_decode_eq_instr (h : decode bs = .instr i rest) : bs = encode i ++ rest := by
  cases bs with
  | nil => simp [decode] at h
  | cons b tail =>
    simp only [decode] at h
    split at h
    next hb =>
      obtain ⟨rfl, rfl⟩ := decodeAfterEscape_eq_instr.1 h
      rw [hb]
      rfl
    next =>
      split at h
      next hb =>
        obtain ⟨rfl, rfl⟩ := decodeLocked_eq_instr.1 h
        rw [hb]
        rfl
      next =>
        split at h
        · exact absurd h (decodePrefixed_ne_instr true)
        · simp at h

end DecodedInstructions

/-- Every instruction is well-formed: neither row has an operand (30_encoding.md rule R66). -/
theorem instr_wf (i : Instr) : i.wf = true := by
  cases i with
  | sysenter => exact Laws.EncodedForm.sysenter.1
  | lockSysenter => exact Laws.EncodedForm.lockSysenter.1

/-- Settles O2: one direction runs the decoder on an encoding, the other inverts each of its branches. -/
theorem decodeAndEncodeAgree : Obligations.DecodeAndEncodeAgree :=
  ⟨fun i rest _ => decode_encode_append i rest,
   fun _ i _ h => ⟨instr_wf i, eq_encode_append_of_decode_eq_instr h⟩⟩

/-! # Proofs: what the decoder answers after a run of prefixes -/

section Prefixes

variable {b : Byte} {bs : List Byte} (other : Bool)

theorem not_isOtherPrefix_escapeByte : ¬ isOtherPrefix escapeByte = true := by decide
theorem not_isOtherPrefix_lockByte : ¬ isOtherPrefix lockByte = true := by decide

/-- The first opcode byte is not among the prefixes. -/
theorem ne_escapeByte_of_prefix (hb : b = lockByte ∨ isOtherPrefix b = true) : b ≠ escapeByte := by
  rintro rfl
  exact hb.elim (by decide) not_isOtherPrefix_escapeByte

/-- LOCK is not among the other prefixes. -/
theorem ne_lockByte_of_isOtherPrefix (hb : isOtherPrefix b = true) : b ≠ lockByte := by
  rintro rfl
  exact not_isOtherPrefix_lockByte hb

/-- One of the prefixes other than LOCK, at the front, begins no row. -/
theorem decode_of_isOtherPrefix (hb : isOtherPrefix b = true) : decode (b :: bs) = decodePrefixed true bs := by
  simp [decode, ne_escapeByte_of_prefix (.inr hb), ne_lockByte_of_isOtherPrefix hb, hb]

/-- Another of the prefixes after LOCK begins no row. -/
theorem decodeLocked_of_prefix (hb : b = lockByte ∨ isOtherPrefix b = true) :
    decodeLocked (b :: bs) = decodePrefixed (isOtherPrefix b) bs := by
  have hescape := ne_escapeByte_of_prefix hb
  rcases hb with rfl | hother
  · simp [decodeLocked, hescape, not_isOtherPrefix_lockByte]
  · simp [decodeLocked, hescape, ne_lockByte_of_isOtherPrefix hother, hother]

/-- A further one of the prefixes only tells whether one is not LOCK. -/
theorem decodePrefixed_of_prefix (hb : b = lockByte ∨ isOtherPrefix b = true) :
    decodePrefixed other (b :: bs) = decodePrefixed (other || isOtherPrefix b) bs := by
  have hescape := ne_escapeByte_of_prefix hb
  rcases hb with rfl | hother
  · simp [decodePrefixed, hescape, not_isOtherPrefix_lockByte]
  · simp [decodePrefixed, hescape, ne_lockByte_of_isOtherPrefix hother, hother]

@[simp] theorem decodePrefixed_nil : decodePrefixed other [] = .notInScope := rfl
@[simp] theorem decodePrefixed_escapeByte :
    decodePrefixed other (escapeByte :: bs) = decodePrefixedEscape other bs := rfl

/-- After a run of prefixes, a byte that is neither 0FH nor among them is no row (30_encoding.md rule R68). -/
theorem decodePrefixed_of_no_row (hescape : b ≠ escapeByte) (hlock : b ≠ lockByte) (hprefix : isOtherPrefix b = false) :
    decodePrefixed other (b :: bs) = .notInScope := by
  simp [decodePrefixed, hescape, hlock, hprefix]

@[simp] theorem decodePrefixedEscape_nil : decodePrefixedEscape other [] = .notInScope := rfl

/-- A run of prefixes before `0F 34`: whether one is not LOCK decides the refusal (30_encoding.md rules R64, R68). -/
theorem decodePrefixedEscape_sysenterByte :
    decodePrefixedEscape other (sysenterByte :: bs) = if other then .prefixNotInScope else .notInScope := by
  simp [decodePrefixedEscape]

/-- After a run of prefixes and 0FH, another byte than 34H is no row (30_encoding.md rule R68). -/
theorem decodePrefixedEscape_of_ne (hb : b ≠ sysenterByte) :
    decodePrefixedEscape other (b :: bs) = .notInScope := by
  simp [decodePrefixedEscape, hb]

end Prefixes

section PrefixRuns

variable {run : List Byte} (hrun : ∀ b ∈ run, b = lockByte ∨ isOtherPrefix b = true)
include hrun

/-- A further run of prefixes, of any length, only tells whether one of them is not LOCK. -/
theorem decodePrefixed_append (other : Bool) (bs : List Byte) :
    decodePrefixed other (run ++ bs) = decodePrefixed (other || run.any isOtherPrefix) bs := by
  induction run generalizing other with
  | nil => simp
  | cons p tail ih =>
    obtain ⟨hp, htail⟩ := List.forall_mem_cons.1 hrun
    rw [List.cons_append, decodePrefixed_of_prefix other hp, ih htail, List.any_cons, Bool.or_assoc]

/-- A run of prefixes begins no row unless it is empty or one LOCK; the decoder then looks only for the kind of the
refusal (30_encoding.md rules R64, R68). -/
theorem decode_prefixes_append (hne : run ≠ []) (hneLock : run ≠ [lockByte]) (bs : List Byte) :
    decode (run ++ bs) = decodePrefixed (run.any isOtherPrefix) bs := by
  match run with
  | [] => exact absurd rfl hne
  | p :: tail =>
    obtain ⟨hp, htail⟩ := List.forall_mem_cons.1 hrun
    rcases hp with rfl | hother
    · match tail with
      | [] => exact absurd rfl hneLock
      | q :: tail' =>
        obtain ⟨hq, htail'⟩ := List.forall_mem_cons.1 htail
        simp only [List.cons_append, decode_lockByte, decodeLocked_of_prefix hq, decodePrefixed_append htail',
          List.any_cons, not_isOtherPrefix_lockByte, Bool.false_or]
    · simp only [List.cons_append, decode_of_isOtherPrefix hother, decodePrefixed_append htail, List.any_cons, hother,
        Bool.true_or]

/-- `0F 34` after a run of prefixes that begins no row: the two refusals (30_encoding.md rules R64, R68). -/
theorem decode_prefixes_sysenter (hne : run ≠ []) (hneLock : run ≠ [lockByte]) (rest : List Byte) :
    decode (run ++ encode .sysenter ++ rest) =
      if run.any isOtherPrefix then .prefixNotInScope else .notInScope := by
  rw [List.append_assoc, decode_prefixes_append hrun hne hneLock]
  exact decodePrefixedEscape_sysenterByte (bs := rest) _

/-- After any run of prefixes, a byte that is neither 0FH nor among them is no row. -/
theorem decode_prefixes_of_no_row {b : Byte} (hescape : b ≠ escapeByte) (hlock : b ≠ lockByte)
    (hprefix : isOtherPrefix b = false) (rest : List Byte) : decode (run ++ b :: rest) = .notInScope := by
  by_cases hne : run = []
  · subst hne
    exact decode_of_no_row hescape hlock hprefix
  by_cases hneLock : run = [lockByte]
  · subst hneLock
    exact decodeLocked_of_no_row hescape hlock hprefix
  rw [decode_prefixes_append hrun hne hneLock, decodePrefixed_of_no_row _ hescape hlock hprefix]

/-- After any run of prefixes and 0FH, another byte than 34H is no row. -/
theorem decode_prefixes_escape_of_ne {b : Byte} (hb : b ≠ sysenterByte) (rest : List Byte) :
    decode (run ++ escapeByte :: b :: rest) = .notInScope := by
  by_cases hne : run = []
  · subst hne
    exact decodeAfterEscape_of_ne hb
  by_cases hneLock : run = [lockByte]
  · subst hneLock
    exact decodeAfterEscape_of_ne hb
  rw [decode_prefixes_append hrun hne hneLock, decodePrefixed_escapeByte, decodePrefixedEscape_of_ne _ hb]

/-- A run of prefixes that begins no row is refused where nothing follows, and where 0FH and no more does. -/
theorem decode_prefixes_cut_short (hne : run ≠ []) (hneLock : run ≠ [lockByte]) :
    decode run = .notInScope ∧ decode (run ++ [escapeByte]) = .notInScope := by
  have hdecode := decode_prefixes_append hrun hne hneLock
  constructor
  · simpa using hdecode []
  · rw [hdecode, decodePrefixed_escapeByte, decodePrefixedEscape_nil]

end PrefixRuns

/-- Settles O3: a run that holds one of the prefixes other than LOCK is neither empty nor one LOCK. -/
theorem prefixedSysenterIsRefused : Obligations.PrefixedSysenterIsRefused := by
  rintro run rest hrun ⟨p, hp, hother⟩
  have hne : run ≠ [] := List.ne_nil_of_mem hp
  have hneLock : run ≠ [lockByte] := by
    rintro rfl
    exact ne_lockByte_of_isOtherPrefix hother (List.mem_singleton.1 hp)
  have hany : run.any isOtherPrefix = true := List.any_eq_true.2 ⟨p, hp, hother⟩
  rw [decode_prefixes_sysenter hrun hne hneLock, if_pos hany]

/-- Two or more LOCK bytes before `0F 34` are no row (30_encoding.md rule R68). -/
theorem decode_locks_sysenter {run : List Byte} (rest : List Byte) (hlen : 2 ≤ run.length)
    (hlock : ∀ b ∈ run, b = lockByte) : decode (run ++ encode .sysenter ++ rest) = .notInScope := by
  have hne : run ≠ [] := by
    rintro rfl
    simp at hlen
  have hneLock : run ≠ [lockByte] := by
    rintro rfl
    simp at hlen
  have hany : ¬ run.any isOtherPrefix = true := by
    rw [List.any_eq_true]
    rintro ⟨p, hp, hother⟩
    exact ne_lockByte_of_isOtherPrefix hother (hlock p hp)
  rw [decode_prefixes_sysenter (fun b hb => .inl (hlock b hb)) hne hneLock, if_neg hany]

/-- The byte lists that begin an encoding without being the whole of it. -/
theorem exists_proper_prefix_encode {bs : List Byte} : (∃ i : Instr, bs <+: encode i ∧ bs ≠ encode i) ↔
    bs = [] ∨ bs = [escapeByte] ∨ bs = [lockByte] ∨ bs = [lockByte, escapeByte] := by
  constructor
  · rintro ⟨i, hprefix, hne⟩
    cases i with
    | sysenter | lockSysenter =>
      simp only [encode, List.prefix_cons_iff, List.prefix_nil] at hprefix hne
      grind
  · rintro (rfl | rfl | rfl | rfl)
    · exact ⟨.sysenter, by decide, by decide⟩
    · exact ⟨.sysenter, by decide, by decide⟩
    · exact ⟨.lockSysenter, by decide, by decide⟩
    · exact ⟨.lockSysenter, by decide, by decide⟩

/-- Settles O44: a run of prefixes is empty, one LOCK, or begins no row. -/
theorem bytesOfNoRowAreNotInScope : Obligations.BytesOfNoRowAreNotInScope :=
  ⟨fun _ => decode_eq_needsByte.trans exists_proper_prefix_encode.symm, fun _ hrun =>
    ⟨fun _ rest hescape hlock hprefix => decode_prefixes_of_no_row hrun hescape hlock hprefix rest,
     fun _ rest hb => decode_prefixes_escape_of_ne hrun hb rest,
     decode_locks_sysenter,
     decode_prefixes_cut_short hrun⟩⟩

/-- Settles O1: the words of the table are encodings, and each neighbour is a case of the refusals above. -/
theorem decodesTheWordsOfTheTable : Obligations.DecodesTheWordsOfTheTable :=
  ⟨decode_encode_append .sysenter [], decode_encode_append .lockSysenter [], by decide, by decide,
   decode_of_no_row (by decide) (by decide) (by decide),
   decode_prefixes_escape_of_ne (run := []) (b := 0x35) (by simp) (by decide) [],
   prefixedSysenterIsRefused [0x66] [] (by decide) (by decide)⟩

/-! # Proofs: the fetch of a run of bytes, however long -/

section MappedRun

variable {m : Memory}

theorem add_ofNat_succ (a : Word) (k : Nat) : a + BitVec.ofNat 64 (k + 1) = a + 1 + BitVec.ofNat 64 k := by
  rw [BitVec.add_assoc, Nat.add_comm k 1, BitVec.ofNat_add]
  rfl

/-- A mapped address is listed in the memory. -/
theorem toNat_mem_of_read_eq_some {a : Word} {b : Byte} (h : Memory.read m a = some b) :
    a.toNat ∈ m.map Prod.fst := by
  induction m with
  | nil => simp at h
  | cons cell m ih =>
    obtain ⟨k, c⟩ := cell
    simp only [Memory.read] at h
    split at h
    next hk => simp [hk]
    next => exact List.mem_cons_of_mem _ (ih h)

/-- Consecutive addresses, up to the size of the address space, are distinct. -/
theorem nodup_consecutive_addresses (a : Word) {n : Nat} (hn : n ≤ 2 ^ 64) :
    ((List.range n).map fun k => (a + BitVec.ofNat 64 k).toNat).Nodup := by
  refine List.Nodup.map_on (fun j hj k hk heq => ?_) List.nodup_range
  rw [List.mem_range] at hj hk
  simp only [BitVec.toNat_add, BitVec.toNat_ofNat] at heq
  omega

/-- A memory with `n` consecutive bytes mapped lists at least `n`, so the window of a fetch holds them all. -/
theorem le_length_of_mapped {a : Word} {n : Nat} (hn : n ≤ 2 ^ 64)
    (hmapped : ∀ k < n, ∃ b, Memory.read m (a + BitVec.ofNat 64 k) = some b) : n ≤ m.length := by
  have hsub : ((List.range n).map fun k => (a + BitVec.ofNat 64 k).toNat) ⊆ m.map Prod.fst := by
    intro x hx
    obtain ⟨k, hk, rfl⟩ := List.mem_map.1 hx
    obtain ⟨b, hb⟩ := hmapped k (List.mem_range.1 hk)
    exact toNat_mem_of_read_eq_some hb
  simpa using ((nodup_consecutive_addresses a hn).subperm hsub).length_le

/-- Bytes mapped in increasing address order begin what a window that holds them shows (20_memory.md rule R44). -/
theorem prefix_bytesFrom {bs : List Byte} {n : Nat} {a : Word} (hn : bs.length ≤ n)
    (hmapped : ∀ k < bs.length, Memory.read m (a + BitVec.ofNat 64 k) = bs[k]?) : bs <+: bytesFrom m n a := by
  induction bs generalizing n a with
  | nil => exact List.nil_prefix
  | cons b bs ih =>
    obtain _ | n := n
    · simp at hn
    have hfirst : Memory.read m a = some b := by simpa using hmapped 0 (by simp)
    rw [bytesFrom_of_mapped m n a b hfirst, List.prefix_cons_inj]
    refine ih (Nat.le_of_succ_le_succ hn) fun k hk => ?_
    have hnext := hmapped (k + 1) (Nat.succ_lt_succ hk)
    rwa [add_ofNat_succ, List.getElem?_cons_succ] at hnext

/-- The fetch begins with whatever run of bytes is mapped at the fetch address (20_memory.md rules R43, R44). -/
theorem prefix_fetchBytes {s : State} {bs : List Byte} (hlen : bs.length ≤ 2 ^ 64)
    (hmapped : ∀ k < bs.length, s.mem.read (s.fetchAddress + BitVec.ofNat 64 k) = bs[k]?) : bs <+: s.fetchBytes := by
  have hlength : bs.length ≤ s.mem.length :=
    le_length_of_mapped hlen fun k hk => ⟨bs[k], by rw [hmapped k hk, List.getElem?_eq_getElem hk]⟩
  rw [fetchBytes_eq_bytesFrom]
  exact prefix_bytesFrom (by omega) hmapped

end MappedRun

/-- Settles O47: the window of the fetch holds the whole run, and the decoder refuses it with whatever follows. -/
theorem prefixedSysenterInMemoryIsRefused : Obligations.PrefixedSysenterInMemoryIsRefused := by
  intro s run hlen hrun hother hmapped
  have hlength : (run ++ encode .sysenter).length = run.length + 2 := List.length_append
  rw [← hlength] at hlen hmapped
  obtain ⟨rest, hfetch⟩ := prefix_fetchBytes hlen hmapped
  apply step_of_decode_eq_prefixNotInScope
  rw [← hfetch]
  exact prefixedSysenterIsRefused run rest hrun hother

end Sys2Proof.Machine

/-! # Proofs: what `enterKernel` leaves in the remaining fields, and the background it keeps -/

namespace Sys2Proof.Machine

section EntryFields

variable (s : State)

@[simp] theorem enterKernel_cpl : (enterKernel s).cpu.cpl = 0 := rfl
@[simp] theorem enterKernel_ss :
    (enterKernel s).cpu.ss = entrySs (selectorAbove (clearRpl (selectorField s.cpu.sysenterCs))) := rfl
@[simp] theorem enterKernel_rip : (enterKernel s).cpu.rip =
    if s.lma then s.cpu.sysenterEip else joinHalves (freeHighRip s) (low32 s.cpu.sysenterEip) := rfl
@[simp] theorem enterKernel_rsp : (enterKernel s).cpu.rsp =
    if s.lma then s.cpu.sysenterEsp else joinHalves (freeHighRsp s) (low32 s.cpu.sysenterEsp) := rfl
@[simp] theorem enterKernel_cr4 : (enterKernel s).cpu.cr4 = s.cpu.cr4 := rfl
@[simp] theorem enterKernel_sysenterCs : (enterKernel s).cpu.sysenterCs = s.cpu.sysenterCs := rfl
@[simp] theorem enterKernel_uCet : (enterKernel s).cpu.uCet = s.cpu.uCet := rfl
@[simp] theorem enterKernel_lma : (enterKernel s).lma = s.lma := rfl

/-- The low half of the entry point is loaded in every mode (40_sysenter.md rule R83). -/
theorem low32_enterKernel_rip : low32 (enterKernel s).cpu.rip = low32 s.cpu.sysenterEip := by
  rw [enterKernel_rip]
  split <;> simp

/-- The low half of the kernel stack pointer is loaded in every mode (40_sysenter.md rule R83). -/
theorem low32_enterKernel_rsp : low32 (enterKernel s).cpu.rsp = low32 s.cpu.sysenterEsp := by
  rw [enterKernel_rsp]
  split <;> simp

/-- The processor that line 19 finds: lines 2 to 18 are done (40_sysenter.md rule R87). -/
def State.cpuAtLine19 : Cpu :=
  enterLevel0 (saveSsp s.cfg.laWidth s.lma (invokedReading s)
    (throughLine14 s.lma (freeHighRsp s) (freeHighRip s) s.cpu))

/-- The processor that line 20 finds: line 19 is done (40_sysenter.md rule R88). -/
def State.cpuAtLine20 : Cpu := clearSsp s.cfg s.cpuAtLine19

/-- The predicate of line 19 (40_sysenter.md rule R87). -/
def State.clearsSsp : Bool := shadowStackEnabled s.cfg s.cpuAtLine19 0

/-- The predicate of line 20 (40_sysenter.md rule R88). -/
def State.armsTracker : Bool := endbranchEnabled s.cfg s.cpuAtLine20 0

/-- What line 19 leaves in `SSP` is there at the end (40_sysenter.md rule R87). -/
theorem enterKernel_ssp : (enterKernel s).cpu.ssp = if s.clearsSsp then 0 else s.cpu.ssp := rfl

/-- What lines 20 to 22 leave in `IA32_S_CET` is there at the end (40_sysenter.md rule R88). -/
theorem enterKernel_sCet : (enterKernel s).cpu.sCet =
    if s.armsTracker then { s.cpu.sCet with TRACKER := .waitForEndbranch, SUPPRESS := false } else s.cpu.sCet := rfl

/-- Line 19 finds the processor of the end, but for `SS`, `IA32_S_CET` and `SSP`, which are still the caller's. -/
theorem cpuAtLine19_eq : s.cpuAtLine19 =
    { (enterKernel s).cpu with ss := s.cpu.ss, sCet := s.cpu.sCet, ssp := s.cpu.ssp } := rfl

/-- Line 20 finds the processor of the end, but for `SS` and `IA32_S_CET`, which are still the caller's. -/
theorem cpuAtLine20_eq : s.cpuAtLine20 =
    { (enterKernel s).cpu with ss := s.cpu.ss, sCet := s.cpu.sCet } := rfl

/-- `IA32_S_CET` changes in its tracker and its suppress bit at most (40_sysenter.md rule R88). -/
theorem enterKernel_sCet_frame : (enterKernel s).cpu.sCet = { s.cpu.sCet with
    TRACKER := (enterKernel s).cpu.sCet.TRACKER, SUPPRESS := (enterKernel s).cpu.sCet.SUPPRESS } := by
  rw [enterKernel_sCet]
  split <;> rfl

@[simp] theorem enterKernel_sCet_shStkEn : (enterKernel s).cpu.sCet.SH_STK_EN = s.cpu.sCet.SH_STK_EN := by
  rw [enterKernel_sCet_frame]

@[simp] theorem enterKernel_sCet_endbrEn : (enterKernel s).cpu.sCet.ENDBR_EN = s.cpu.sCet.ENDBR_EN := by
  rw [enterKernel_sCet_frame]

/-- The background is what lines 2 to 25 do not assign (40_sysenter.md rule R90). -/
theorem sameBackground_enterKernel : s.SameBackground (enterKernel s) where
  cfg := rfl
  mem := rfl
  gprs := rfl
  otherFlags := rfl
  dataSegments := ⟨rfl, rfl, rfl, rfl⟩
  tables := ⟨rfl, rfl, rfl⟩
  controls := ⟨rfl, rfl, rfl⟩
  msrs := ⟨rfl, rfl, rfl⟩
  userCet := rfl
  otherSCet := by
    rw [enterKernel_sCet_frame]
    exact ⟨rfl, rfl, rfl⟩

end EntryFields

/-- A background kept by two runs in a row is kept by both together. -/
theorem State.SameBackground.trans {s t u : State} (h : s.SameBackground t) (h' : t.SameBackground u) :
    s.SameBackground u := by
  obtain ⟨hcfg, hmem, hgprs, hflags, ⟨hds, hes, hfs, hgs⟩, ⟨hgdtr, hidtr, hldtr⟩, ⟨hcr0, hcr4, hefer⟩,
    ⟨hcs, hesp, heip⟩, huCet, ⟨hshStk, hendbr, hrest⟩⟩ := h
  obtain ⟨hcfg', hmem', hgprs', hflags', ⟨hds', hes', hfs', hgs'⟩, ⟨hgdtr', hidtr', hldtr'⟩, ⟨hcr0', hcr4', hefer'⟩,
    ⟨hcs', hesp', heip'⟩, huCet', ⟨hshStk', hendbr', hrest'⟩⟩ := h'
  exact ⟨hcfg'.trans hcfg, hmem'.trans hmem, hgprs'.trans hgprs, hflags'.trans hflags,
    ⟨hds'.trans hds, hes'.trans hes, hfs'.trans hfs, hgs'.trans hgs⟩,
    ⟨hgdtr'.trans hgdtr, hidtr'.trans hidtr, hldtr'.trans hldtr⟩,
    ⟨hcr0'.trans hcr0, hcr4'.trans hcr4, hefer'.trans hefer⟩,
    ⟨hcs'.trans hcs, hesp'.trans hesp, heip'.trans heip⟩, huCet'.trans huCet,
    ⟨hshStk'.trans hshStk, hendbr'.trans hendbr, hrest'.trans hrest⟩⟩

/-- The mode bit of IA-32e is part of the background. -/
theorem State.SameBackground.lma_eq {s t : State} (h : s.SameBackground t) : t.lma = s.lma := by
  obtain ⟨-, -, hefer⟩ := h.controls
  simp only [State.lma, h.cfg, hefer]

/-- Settles O23: the frame is the background, and without CET no predicate of lines 15 to 22 holds. -/
theorem sysenterFrame : Obligations.SysenterFrame := by
  intro s t hexec
  obtain ⟨-, rfl⟩ := (exec_sysenter_eq_next s t).1 hexec
  obtain ⟨hcfg, hmem, hgprs, hflags, ⟨hds, hes, hfs, hgs⟩, ⟨hgdtr, hidtr, hldtr⟩, ⟨hcr0, hcr4, hefer⟩, -, huCet, -⟩ :=
    sameBackground_enterKernel s
  have hmsrs : ∀ m, readMsr m (enterKernel s).cpu = readMsr m s.cpu := fun m => by
    cases m with
    | cs | esp | eip => rfl
  refine ⟨hcfg, fun a => by rw [hmem], hgprs, hflags, hds, hes, hfs, hgs, hgdtr, hidtr, hldtr, hcr0, hcr4, hefer, hmsrs,
    huCet, enterKernel_sCet_frame s, fun habsent => ⟨?_, ?_, ?_⟩⟩
  · simp [enterKernel_ssp, State.clearsSsp, habsent]
  · simp [enterKernel_pl3Ssp, habsent]
  · simp [enterKernel_sCet, State.armsTracker, habsent]

/-! # Proofs: the selectors that `IA32_SYSENTER_CS` gives -/

section Selectors

variable (v : Word)

/-- The code selector is bits 15:2 of the MSR and two zeros (40_sysenter.md rule R84). -/
theorem entrySelector_eq_append : clearRpl (selectorField v) = nullCheckField v ++ (0 : BitVec 2) := by
  have hmask : ∀ i, i < 16 → (0xFFFC : Selector).getLsbD i = decide (2 ≤ i) := by decide
  apply BitVec.eq_of_getLsbD_eq
  intro i hi
  rw [clearRpl, BitVec.getLsbD_and, hmask i hi, BitVec.getLsbD_append]
  by_cases hlow : i < 2
  · simp [hlow]
  · have hadd : 2 + (i - 2) = i := by omega
    simp [hlow, selectorField, nullCheckField, hadd, hi, show 2 ≤ i by omega, show i - 2 < 14 by omega]

/-- As a number the code selector is four times bits 15:2 of the MSR. -/
theorem toNat_entrySelector : (clearRpl (selectorField v)).toNat = 4 * (nullCheckField v).toNat := by
  rw [entrySelector_eq_append, BitVec.toNat_append, Nat.shiftLeft_eq]
  simp [Nat.mul_comm]

/-- The mask clears bits 1:0 (40_sysenter.md rule R84). -/
theorem getLsbD_entrySelector_of_lt {i : Nat} (hi : i < 2) : (clearRpl (selectorField v)).getLsbD i = false := by
  rw [entrySelector_eq_append, BitVec.getLsbD_append]
  simp [hi]

/-- The mask keeps bits 15:2 (40_sysenter.md rule R84). -/
theorem getLsbD_entrySelector_of_le {i : Nat} (hle : 2 ≤ i) (hi : i < 16) :
    (clearRpl (selectorField v)).getLsbD i = v.getLsbD i := by
  have hadd : 2 + (i - 2) = i := by omega
  rw [entrySelector_eq_append, BitVec.getLsbD_append]
  simp [nullCheckField, hadd, show ¬ i < 2 by omega, show i - 2 < 14 by omega]

/-- A selector whose number is a multiple of 4 has requested privilege level 0 (10_state.md rule R14). -/
theorem rpl_eq_zero {sel : Selector} (h : sel.toNat % 4 = 0) : rpl sel = 0 := by
  apply BitVec.eq_of_toNat_eq
  simpa [rpl] using h

/-- The sum is kept to 16 bits (40_sysenter.md rule R96). -/
theorem toNat_selectorAbove (sel : Selector) : (selectorAbove sel).toNat = (sel.toNat + 8) % 2 ^ 16 := by
  simp [selectorAbove]

variable {v}

/-- The null check asks for bits 15:2 to be 0 (40_sysenter.md rule R81). -/
theorem nullCheckField_eq_zero_iff : nullCheckField v = 0 ↔ ∀ i, 2 ≤ i → i < 16 → v.getLsbD i = false := by
  have hbit : ∀ i, 2 ≤ i → i < 16 → (nullCheckField v).getLsbD (i - 2) = v.getLsbD i := fun i hle hi => by
    have hadd : 2 + (i - 2) = i := by omega
    simp [nullCheckField, hadd, show i - 2 < 14 by omega]
  constructor
  · intro hzero i hle hi
    rw [← hbit i hle hi, hzero]
    simp
  · intro hbits
    apply BitVec.eq_of_getLsbD_eq
    intro j hj
    have hj2 := hbits (j + 2) (by omega) (by omega)
    rw [← hbit (j + 2) (by omega) (by omega)] at hj2
    simpa using hj2

/-- The null check is that the MSR AND FFFCH is 0 (40_sysenter.md rule R81). -/
theorem and_mask_eq_zero_iff : v &&& 0xFFFC = 0 ↔ nullCheckField v = 0 := by
  have hmask : ∀ i, i < 64 → (0xFFFC : Word).getLsbD i = (decide (2 ≤ i) && decide (i < 16)) := by decide
  rw [nullCheckField_eq_zero_iff]
  constructor
  · intro hzero i hle hi
    have hbit : (v &&& 0xFFFC).getLsbD i = v.getLsbD i := by
      rw [BitVec.getLsbD_and, hmask i (by omega)]
      simp [hle, hi]
    rw [← hbit, hzero]
    exact BitVec.getLsbD_zero
  · intro hbits
    apply BitVec.eq_of_getLsbD_eq
    intro i hi
    rw [BitVec.getLsbD_and, hmask i hi]
    by_cases hin : 2 ≤ i ∧ i < 16
    · obtain ⟨hle, hlt⟩ := hin
      simp [hbits i hle hlt]
    · have hout : (decide (2 ≤ i) && decide (i < 16)) = false := by simpa using hin
      simp [hout]

/-- A selector that passes the null check is at least 4 (40_sysenter.md rule R96). -/
theorem four_le_toNat_entrySelector (h : nullCheckField v ≠ 0) : 4 ≤ (clearRpl (selectorField v)).toNat := by
  have hpos : (nullCheckField v).toNat ≠ 0 := fun hzero => h (BitVec.eq_of_toNat_eq hzero)
  rw [toNat_entrySelector]
  omega

end Selectors

/-! # Proofs: the modes before and after -/

section Modes

variable {s : State}

/-- Real-address mode is `CR0.PE = 0` (10_state.md rule R30). -/
theorem mode_eq_realAddress_iff : s.mode = .realAddress ↔ s.cpu.cr0.PE = false := by
  unfold State.mode
  cases s.cpu.cr0.PE with
  | false => simp
  | true => cases s.lma <;> simp <;> split <;> simp

/-- The two modes of IA-32e mode (10_state.md rule R30). -/
theorem mode_ia32e_iff : (s.mode = .compatibility ∨ s.mode = .bit64) ↔ s.cpu.cr0.PE = true ∧ s.lma = true := by
  unfold State.mode
  cases s.cpu.cr0.PE with
  | false => simp
  | true =>
    cases s.lma with
    | true => cases s.cpu.cs.l <;> simp
    | false => cases s.cpu.rflags.VM <;> simp

/-- The two protected modes outside IA-32e mode (10_state.md rule R30). -/
theorem mode_legacy_iff :
    (s.mode = .protectedProper ∨ s.mode = .virtual8086) ↔ s.cpu.cr0.PE = true ∧ s.lma = false := by
  unfold State.mode
  cases s.cpu.cr0.PE with
  | false => simp
  | true =>
    cases s.lma with
    | true => cases s.cpu.cs.l <;> simp
    | false => cases s.cpu.rflags.VM <;> simp

variable (hr : s.Ready)
include hr

/-- An entry in IA-32e mode leads to 64-bit mode: `CS.L` is `LMA` (40_sysenter.md rule R94). -/
theorem mode_enterKernel_of_lma (hlma : s.lma = true) : (enterKernel s).mode = .bit64 := by
  simp [State.mode, hr.notReal, hlma]

/-- An entry outside IA-32e mode leads to protected mode proper: `RFLAGS.VM` is 0 (40_sysenter.md rule R94). -/
theorem mode_enterKernel_of_not_lma (hlma : s.lma = false) : (enterKernel s).mode = .protectedProper := by
  simp [State.mode, hr.notReal, hlma]

end Modes

/-- Where the handler is fetched: the whole of `IA32_SYSENTER_EIP` in IA-32e mode, its low half outside
(20_memory.md rule R43; 40_sysenter.md rule R83). -/
def State.entryPoint (s : State) : Word :=
  if s.lma then s.cpu.sysenterEip else zext64 (low32 s.cpu.sysenterEip)

theorem low32_zext64 (v : BitVec 32) : low32 (zext64 v) = v := by
  apply BitVec.eq_of_toNat_eq
  rw [toNat_low32, toNat_zext64, Nat.mod_eq_of_lt v.isLt]

/-- After an entry the fetch is at the entry point: `CS.Base` is 0 (20_memory.md rule R43; 40_sysenter.md rule R84). -/
theorem fetchAddress_enterKernel {s : State} (hr : s.Ready) : (enterKernel s).fetchAddress = s.entryPoint := by
  cases hlma : s.lma with
  | true => simp [fetchAddress_of_bit64 _ (mode_enterKernel_of_lma hr hlma), State.entryPoint, hlma]
  | false =>
    have hmode : (enterKernel s).mode ≠ .bit64 := by simp [mode_enterKernel_of_not_lma hr hlma]
    rw [fetchAddress_of_ne_bit64 _ hmode, low32_enterKernel_rip, enterKernel_cs]
    simp [low32_zext64, State.entryPoint, hlma]

/-! # Proofs: when `SYSENTER` faults, and when it is refused as ambiguous -/

/-- The check of line 1 fails (40_sysenter.md rule R81). -/
theorem entryCheckFails_eq_true (c : Cpu) :
    entryCheckFails c = true ↔ c.cr0.PE = false ∨ nullCheckField c.sysenterCs = 0 := by
  simp [entryCheckFails]

/-- Under the premises of the model, `#GP(0)` is the check of line 1 (40_sysenter.md rule R81). -/
theorem exec_sysenter_eq_gp_iff {s : State} (hsep : s.cfg.sepPresent = true)
    (hcanon : canonicalMsrs s.cfg s.cpu = true) :
    exec .sysenter s = .fault (.gp 0) ↔ s.cpu.cr0.PE = false ∨ nullCheckField s.cpu.sysenterCs = 0 := by
  simp [exec_sysenter_eq_fault, entryCheckFails_eq_true, hsep, hcanon]

/-- Settles O11: the check of line 1, in its two spellings. -/
theorem sysenterRaisesGpExactlyWhen : Obligations.SysenterRaisesGpExactlyWhen := by
  intro s hsep hcanon
  rw [exec_sysenter_eq_gp_iff hsep hcanon]
  exact ⟨by rw [mode_eq_realAddress_iff, and_mask_eq_zero_iff], by rw [nullCheckField_eq_zero_iff]⟩

/-- Behind the earlier checks, the refusal as ambiguous is that the two readings differ (40_sysenter.md rule R85). -/
theorem exec_sysenter_eq_ambiguous_iff {s : State} (hsep : s.cfg.sepPresent = true)
    (hcanon : canonicalMsrs s.cfg s.cpu = true) (hpe : s.cpu.cr0.PE = true)
    (hnull : nullCheckField s.cpu.sysenterCs ≠ 0) :
    exec .sysenter s = .refused .cetPredicateAmbiguous ↔ invokedReading s ≠ literalReading s := by
  have hpass := (entryCheckFails_eq_false s.cpu).2 ⟨hpe, hnull⟩
  simp [exec_sysenter_eq_refused, hsep, hcanon, hpass]

/-- The customary enable bit of shadow stacks for the caller's level (10_state.md rule R28, GK11). -/
def callerShadowStackOn (c : Cpu) : Bool := if c.cpl = 3 then c.uCet.SH_STK_EN else c.sCet.SH_STK_EN

section CustomaryReadings

variable {s : State} (hcet : s.cfg.cetPresent = true) (hrule : s.cfg.cetRule = .customary)
  (hpe : s.cpu.cr0.PE = true)
include hcet hrule hpe

/-- The invoked reading sees the caller's `RFLAGS.VM` (40_sysenter.md rule R85). -/
theorem invokedReading_of_customary :
    invokedReading s = (s.cpu.cr4.CET && !s.cpu.rflags.VM && callerShadowStackOn s.cpu) := by
  simp [invokedReading, shadowStackEnabled_of_customary hcet hrule, shadowStackCustomary, cetActive, hpe,
    callerShadowStackOn]

/-- The literal reading sees the `RFLAGS.VM = 0` of line 2 (40_sysenter.md rule R85). -/
theorem literalReading_of_customary : literalReading s = (s.cpu.cr4.CET && callerShadowStackOn s.cpu) := by
  simp [literalReading, throughLine14, shadowStackEnabled_of_customary hcet hrule, shadowStackCustomary, cetActive, hpe,
    callerShadowStackOn]

end CustomaryReadings

/-- Settles O31: with the customary predicate the invoked reading sees the caller's `RFLAGS.VM`, the literal one 0. -/
theorem ambiguousOnlyFromVirtual8086 : Obligations.AmbiguousOnlyFromVirtual8086 := by
  intro s hsep hcanon hpe hnull hrule
  rw [exec_sysenter_eq_ambiguous_iff hsep hcanon hpe hnull]
  cases hcet : s.cfg.cetPresent with
  | false => simp [invokedReading, literalReading, hcet]
  | true =>
    rw [invokedReading_of_customary hcet hrule hpe, literalReading_of_customary hcet hrule hpe, callerShadowStackOn]
    cases s.cpu.rflags.VM with
    | false => simp
    | true => simp

/-! # Proofs: the state after `SYSENTER` -/

/-- Settles O16: all 64 bits of both pointers, with `LMA = 1`. -/
theorem sysenterInIa32eMode : Obligations.SysenterInIa32eMode := by
  intro s hr hlma
  refine ⟨_, hr.exec_sysenter, by simp [hlma], by simp [hlma], ?_, rfl, rfl, rfl, rfl,
    mode_enterKernel_of_lma hr hlma, ?_⟩
  · rw [enterKernel_cs, hlma]
    rfl
  · simp [fetchAddress_enterKernel hr, State.entryPoint, hlma]

/-- Settles O17: the low halves of both pointers, with `LMA = 0`. -/
theorem sysenterOutsideIa32eMode : Obligations.SysenterOutsideIa32eMode := by
  intro s hr hlma
  refine ⟨_, hr.exec_sysenter, low32_enterKernel_rsp s, low32_enterKernel_rip s, ?_, rfl, rfl, rfl, rfl,
    mode_enterKernel_of_not_lma hr hlma, ?_⟩
  · rw [enterKernel_cs, hlma]
    rfl
  · simp [fetchAddress_enterKernel hr, State.entryPoint, hlma]

/-- Settles O18: the code segment is `entryCs` of the masked selector, which memory has no part in. -/
theorem codeSegmentAfterSysenter : Obligations.CodeSegmentAfterSysenter := by
  intro s hr
  refine ⟨_, hr.exec_sysenter, rfl, rfl, rfl, fun i hi => ?_, fun i hle hi => ?_,
    fun m => ⟨_, (hr.withMem m).exec_sysenter, ?_⟩⟩
  · exact getLsbD_entrySelector_of_lt _ hi
  · exact getLsbD_entrySelector_of_le _ hle hi
  · rw [enterKernel_withMem]

/-- Settles O19: the stack segment is `entrySs` of the selector above the code selector. -/
theorem stackSegmentAfterSysenter : Obligations.StackSegmentAfterSysenter := by
  intro s hr
  refine ⟨_, hr.exec_sysenter, rfl, rfl, fun m => ⟨_, (hr.withMem m).exec_sysenter, ?_⟩⟩
  rw [enterKernel_withMem]

/-- Settles O20: the code selector is four times a non-zero number below 2^14. -/
theorem selectorArithmetic : Obligations.SelectorArithmetic := by
  intro s hr
  refine ⟨_, hr.exec_sysenter, ?_⟩
  rw [enterKernel_ss, enterKernel_cs, entrySs_selector, entryCs_selector]
  have hfour := four_le_toNat_entrySelector hr.notNull
  have hmul := toNat_entrySelector s.cpu.sysenterCs
  generalize clearRpl (selectorField s.cpu.sysenterCs) = sel at hfour hmul ⊢
  have hlt : sel.toNat < 2 ^ 16 := sel.isLt
  refine ⟨by omega, hfour, toNat_selectorAbove sel, ?_, ?_, fun hne hne' => ?_⟩
  · rintro rfl
    rfl
  · rintro rfl
    rfl
  · have hneNat : sel.toNat ≠ 0xFFF8 := fun h => hne (BitVec.eq_of_toNat_eq h)
    have hneNat' : sel.toNat ≠ 0xFFFC := fun h => hne' (BitVec.eq_of_toNat_eq h)
    have hbound : sel.toNat ≤ 0xFFF4 := by omega
    exact ⟨hbound, by rw [toNat_selectorAbove]; omega⟩

/-- Settles O22: the mode after is chosen on `LMA`, which the modes before split on. -/
theorem modeAfterSysenter : Obligations.ModeAfterSysenter := by
  intro s
  refine ⟨fun hsep hcanon hmode => ?_, fun hr => ⟨_, hr.exec_sysenter, rfl, rfl, rfl, fun hmode => ?_, fun hmode => ?_⟩⟩
  · exact (exec_sysenter_eq_gp_iff hsep hcanon).2 (.inl (mode_eq_realAddress_iff.1 hmode))
  · obtain ⟨-, hlma⟩ := mode_ia32e_iff.1 hmode
    exact ⟨mode_enterKernel_of_lma hr hlma, hlma⟩
  · obtain ⟨-, hlma⟩ := mode_legacy_iff.1 hmode
    exact ⟨mode_enterKernel_of_not_lma hr hlma, hlma, by simp [hlma], rfl⟩

/-- Settles O28: lines 15 to 17 on the invoked reading, and the refusal where the readings differ. -/
theorem savesTheCallersShadowStackPointer : Obligations.SavesTheCallersShadowStackPointer := by
  intro s
  refine ⟨fun hr => ⟨_, hr.exec_sysenter, fun hon => ?_, fun hoff => ?_⟩, fun hsep hcanon hpe hnull hdiffer => ?_⟩
  · rw [enterKernel_pl3Ssp, if_pos hon]
  · simp [enterKernel_pl3Ssp, hoff]
  · exact (exec_sysenter_eq_ambiguous_iff hsep hcanon hpe hnull).2 hdiffer

/-- Settles O29: the predicates are those of lines 19 and 20, on the processors those lines find. -/
theorem clearsSspAndArmsTheTracker : Obligations.ClearsSspAndArmsTheTracker := by
  intro s hr
  refine ⟨_, hr.exec_sysenter, rfl, rfl, enterKernel_ssp s, fun harm => ?_, fun hkeep => ?_⟩
  · have harms : s.armsTracker = true := harm
    rw [enterKernel_sCet, harms]
    exact ⟨rfl, rfl⟩
  · have hkeeps : s.armsTracker = false := hkeep
    rw [enterKernel_sCet, hkeeps]
    exact ⟨rfl, rfl⟩

end Sys2Proof.Machine

/-! # Proofs: what of the caller an entry reads -/

namespace Sys2Proof.Machine

/-- The caller's elements that 40_sysenter.md rule R91 lists: `SYSENTER` saves none of them. -/
structure Caller where
  rip : Word
  rsp : Word
  cs : CodeSegment
  ss : DataSegment
  cpl : Privilege
  vm : Bool
  ifl : Bool

/-- The caller of a state. -/
def State.caller (s : State) : Caller :=
  ⟨s.cpu.rip, s.cpu.rsp, s.cpu.cs, s.cpu.ss, s.cpu.cpl, s.cpu.rflags.VM, s.cpu.rflags.IF⟩

/-- The state with another caller. -/
def State.withCaller (s : State) (k : Caller) : State :=
  { s with cpu := { s.cpu with
      rip := k.rip, rsp := k.rsp, cs := k.cs, ss := k.ss, cpl := k.cpl
      rflags := { VM := k.vm, IF := k.ifl, rest := s.cpu.rflags.rest } } }

@[simp] theorem withCaller_caller (s : State) : s.withCaller s.caller = s := rfl

/-- Both CET predicates are known: false for want of CET, or the customary ones (10_state.md rule R28). -/
def CetStated (cfg : Config) : Prop := cfg.cetPresent = false ∨ cfg.cetRule = .customary

/-- Two processors agree in what the customary predicates read (10_state.md rule R28). -/
structure SameCetInputs (c d : Cpu) : Prop where
  cr4 : d.cr4 = c.cr4
  cr0 : d.cr0 = c.cr0
  vm : d.rflags.VM = c.rflags.VM
  uCet : d.uCet = c.uCet
  shStkEn : d.sCet.SH_STK_EN = c.sCet.SH_STK_EN
  endbrEn : d.sCet.ENDBR_EN = c.sCet.ENDBR_EN

section CetInputs

variable {cfg : Config} (hstated : CetStated cfg) {c d : Cpu} (hsame : SameCetInputs c d) (p : Privilege)
include hstated hsame

/-- A known `ShadowStackEnabled` depends on its inputs alone. -/
theorem shadowStackEnabled_congr : shadowStackEnabled cfg d p = shadowStackEnabled cfg c p := by
  obtain ⟨hcr4, hcr0, hvm, huCet, hshStk, -⟩ := hsame
  rcases hstated with habsent | hrule
  · simp [habsent]
  · simp only [shadowStackEnabled, hrule, shadowStackCustomary, cetActive, hcr4, hcr0, hvm, huCet, hshStk]

/-- A known `EndbranchEnabled` depends on its inputs alone. -/
theorem endbranchEnabled_congr : endbranchEnabled cfg d p = endbranchEnabled cfg c p := by
  obtain ⟨hcr4, hcr0, hvm, huCet, -, hendbr⟩ := hsame
  rcases hstated with habsent | hrule
  · simp [habsent]
  · simp only [endbranchEnabled, hrule, endbranchCustomary, cetActive, hcr4, hcr0, hvm, huCet, hendbr]

end CetInputs

/-- Lines 18 to 25. -/
def linesFrom18 (cfg : Config) (c : Cpu) : Cpu := loadSs (armTracker cfg (clearSsp cfg (enterLevel0 c)))

theorem throughLine25_eq (cfg : Config) (lma save : Bool) (hiRsp hiRip : BitVec 32) (c : Cpu) :
    throughLine25 cfg lma save hiRsp hiRip c =
      linesFrom18 cfg (saveSsp cfg.laWidth lma save (throughLine14 lma hiRsp hiRip c)) := rfl

/-- Known predicates read neither `SS` nor `IA32_PL3_SSP`: lines 18 to 25 lose the one and keep the other. -/
theorem linesFrom18_withSs_withPl3Ssp {cfg : Config} (hstated : CetStated cfg) (ss : DataSegment) (v : Word) (c : Cpu) :
    linesFrom18 cfg { c with ss := ss, pl3Ssp := v } = { linesFrom18 cfg c with pl3Ssp := v } := by
  have hinputs : SameCetInputs (enterLevel0 c) (enterLevel0 { c with ss := ss, pl3Ssp := v }) :=
    ⟨rfl, rfl, rfl, rfl, rfl, rfl⟩
  have hclear : clearSsp cfg (enterLevel0 { c with ss := ss, pl3Ssp := v }) =
      { clearSsp cfg (enterLevel0 c) with ss := ss, pl3Ssp := v } := by
    rw [clearSsp, shadowStackEnabled_congr hstated hinputs]
    rfl
  have hinputs' : SameCetInputs (clearSsp cfg (enterLevel0 c))
      { clearSsp cfg (enterLevel0 c) with ss := ss, pl3Ssp := v } := ⟨rfl, rfl, rfl, rfl, rfl, rfl⟩
  rw [linesFrom18, hclear, armTracker, endbranchEnabled_congr hstated hinputs']
  rfl

section OtherCaller

variable {s : State} (k : Caller)

/-- With known predicates, the entries of two callers differ in `IA32_PL3_SSP` at most (40_sysenter.md rule R91). -/
theorem enterKernel_withCaller (hstated : CetStated s.cfg) : enterKernel (s.withCaller k) =
    { enterKernel s with
      cpu := { (enterKernel s).cpu with pl3Ssp := (enterKernel (s.withCaller k)).cpu.pl3Ssp } } :=
  congrArg (fun c => { enterKernel s with cpu := c })
    (linesFrom18_withSs_withPl3Ssp hstated k.ss (enterKernel (s.withCaller k)).cpu.pl3Ssp
      (saveSsp s.cfg.laWidth s.lma (invokedReading s) (throughLine14 s.lma (freeHighRsp s) (freeHighRip s) s.cpu)))

variable (hread : invokedReading (s.withCaller k) = invokedReading s)
include hread

/-- With known predicates, of which the first is the same for both callers, the entries are the same. -/
theorem enterKernel_withCaller_of_reading (hstated : CetStated s.cfg) :
    enterKernel (s.withCaller k) = enterKernel s := by
  have hpl3 : (enterKernel (s.withCaller k)).cpu.pl3Ssp = (enterKernel s).cpu.pl3Ssp := by
    have hread' : shadowStackEnabled (s.withCaller k).cfg (s.withCaller k).cpu (s.withCaller k).cpu.cpl =
      shadowStackEnabled s.cfg s.cpu s.cpu.cpl := hread
    rw [enterKernel_pl3Ssp, enterKernel_pl3Ssp, hread']
    rfl
  rw [enterKernel_withCaller k hstated, hpl3]

/-- Whatever the predicates: with the caller's `SS` kept, and the first predicate the same, the entries are the same. -/
theorem enterKernel_withCaller_of_ss (hss : k.ss = s.cpu.ss) : enterKernel (s.withCaller k) = enterKernel s := by
  obtain ⟨rip, rsp, cs, ss, cpl, vm, ifl⟩ := k
  subst hss
  rw [enterKernel, hread]
  rfl

end OtherCaller

/-- With CET absent the caller counts for nothing, whatever the outcome (40_sysenter.md rules R91, R92). -/
theorem exec_sysenter_withCaller_of_absent {s : State} (k : Caller) (habsent : s.cfg.cetPresent = false) :
    exec .sysenter (s.withCaller k) = exec .sysenter s := by
  have habsent' : (s.withCaller k).cfg.cetPresent = false := habsent
  have hread : invokedReading (s.withCaller k) = invokedReading s := by
    simp [invokedReading, habsent, habsent']
  have hliteral : literalReading (s.withCaller k) = literalReading s := by
    simp [literalReading, habsent, habsent']
  rw [exec_sysenter_eq, execSysenter, hread, hliteral, enterKernel_withCaller_of_reading k hread (.inl habsent)]
  rfl

/-- Settles O41: the readiness and the entry of the two callers, by `withCaller`. -/
theorem nothingOfTheCallerIsSaved : Obligations.NothingOfTheCallerIsSaved := by
  intro s rip rsp cs ss cpl vm ifl
  let k : Caller := ⟨rip, rsp, cs, ss, cpl, vm, ifl⟩
  refine ⟨exec_sysenter_withCaller_of_absent k, fun hrule hr hr' hread => ⟨_, hr.exec_sysenter, ?_⟩⟩
  rw [hr'.exec_sysenter]
  exact congrArg _ (enterKernel_withCaller_of_reading k hread (.inr hrule))

/-- Settles O24: another privilege level is another caller with the same `SS`. -/
theorem noPrivilegeCheck : Obligations.NoPrivilegeCheck := by
  intro s p
  let k : Caller := { s.caller with cpl := p }
  refine ⟨fun f => ?_, exec_sysenter_withCaller_of_absent k, fun hr hr' hread => ⟨_, hr.exec_sysenter, ?_⟩,
    fun hrule hr hr' => ⟨_, _, hr.exec_sysenter, hr'.exec_sysenter, enterKernel_withCaller k (.inr hrule)⟩⟩
  · rw [exec_sysenter_eq_fault, exec_sysenter_eq_fault]
    rfl
  · rw [hr'.exec_sysenter]
    exact congrArg _ (enterKernel_withCaller_of_ss k hread rfl)

/-- Settles O21: lines 2 and 3 clear both flags, and the literal reading, with which both invoked ones agree, sees neither
old value. -/
theorem flagsAfterSysenter : Obligations.FlagsAfterSysenter := by
  intro s hr
  refine ⟨_, hr.exec_sysenter, rfl, fun hmode => ?_, ?_⟩
  · obtain ⟨-, hlma⟩ := mode_legacy_iff.1 (.inr hmode)
    exact mode_enterKernel_of_not_lma hr hlma
  · intro vm ifl s' hr'
    have hliteral : literalReading s' = literalReading s := rfl
    have hread : invokedReading s' = invokedReading s := by rw [hr'.agree, hliteral, hr.agree]
    rw [hr'.exec_sysenter]
    exact congrArg _ (enterKernel_withCaller_of_ss { s.caller with vm := vm, ifl := ifl } hread rfl)

/-! # Proofs: every step and every run ends in the kernel entry -/

/-- An entry from a ready state leaves the context the handler starts in (95_test_vectors.md part 4). -/
theorem State.Ready.inKernelEntry {s : State} (hr : s.Ready) : (enterKernel s).InKernelEntry := by
  have hfour := four_le_toNat_entrySelector hr.notNull
  have hmul := toNat_entrySelector s.cpu.sysenterCs
  exact
    { level := rfl
      vm := rfl
      interruptsMasked := rfl
      protectedMode := hr.notReal
      csSelector := rfl
      csNotNull := fun hzero => by
        rw [enterKernel_cs, entryCs_selector] at hzero
        simp [hzero] at hfour
      csRpl := by
        apply rpl_eq_zero
        rw [enterKernel_cs, entryCs_selector]
        omega
      ssRpl := by
        apply rpl_eq_zero
        rw [enterKernel_ss, entrySs_selector, toNat_selectorAbove]
        omega
      ssSelector := rfl
      levels := ⟨rfl, rfl⟩
      codeSize := ⟨rfl, rfl⟩
      pointers64 := fun hlma => by
        rw [enterKernel_lma] at hlma
        simp [hlma]
      pointers32 := ⟨low32_enterKernel_rip s, low32_enterKernel_rsp s⟩ }

/-- Settles O39: a completed step is an entry from a ready state. -/
theorem everyStepEntersTheKernel : Obligations.EveryStepEntersTheKernel := by
  intro s t hstep
  obtain ⟨-, hr, rfl⟩ := (step_eq_next s t).1 hstep
  exact ⟨hr.inKernelEntry, sameBackground_enterKernel s⟩

/-- A run of one or more steps ends in the kernel entry, with the background of its start. -/
theorem run_succ_inKernelEntry (n : Nat) (s t : State) (hrun : Sys2Proof.core.run (n + 1) s = .next t) :
    t.InKernelEntry ∧ s.SameBackground t := by
  induction n generalizing s with
  | zero =>
    obtain ⟨u, hstep, hrest⟩ := run_succ_eq_next s t 0 hrun
    cases hrest
    exact everyStepEntersTheKernel s t hstep
  | succ n ih =>
    obtain ⟨u, hstep, hrest⟩ := run_succ_eq_next s t (n + 1) hrun
    obtain ⟨-, hfirst⟩ := everyStepEntersTheKernel s u hstep
    obtain ⟨hentry, hlater⟩ := ih u hrest
    exact ⟨hentry, hfirst.trans hlater⟩

/-- Settles O40: the MSRs and `LMA` that the last state's kernel entry speaks of are those of the start. -/
theorem everyRunStaysInTheKernel : Obligations.EveryRunStaysInTheKernel := by
  intro n s t hrun
  obtain ⟨hentry, hback⟩ := run_succ_inKernelEntry n s t hrun
  obtain ⟨hcs, hesp, heip⟩ := hback.msrs
  obtain ⟨hrip, hrsp⟩ := hentry.pointers32
  exact ⟨hentry, hback, hback.lma_eq, by rw [hentry.csSelector, hcs], by rw [hrip, heip], by rw [hrsp, hesp]⟩

end Sys2Proof.Machine

/-! # Proofs: a second entry, and a third -/

namespace Sys2Proof.Machine

/-- The CET predicates of the next entry are those of this one at level 0: nothing an entry writes moves them. -/
structure State.CetSettled (s : State) : Prop where
  invoked : invokedReading (enterKernel s) = s.clearsSsp
  literal : literalReading (enterKernel s) = s.clearsSsp
  clears : (enterKernel s).clearsSsp = s.clearsSsp
  arms : (enterKernel s).armsTracker = s.armsTracker

theorem SameCetInputs.trans {c d e : Cpu} (h : SameCetInputs c d) (h' : SameCetInputs d e) : SameCetInputs c e :=
  ⟨h'.cr4.trans h.cr4, h'.cr0.trans h.cr0, h'.vm.trans h.vm, h'.uCet.trans h.uCet, h'.shStkEn.trans h.shStkEn,
    h'.endbrEn.trans h.endbrEn⟩

section CallerInputs

variable {s : State} (hvm : s.cpu.rflags.VM = false)
include hvm

/-! With `RFLAGS.VM = 0` already, the lines before a predicate keep its inputs. -/

theorem sameCetInputs_throughLine14 {lma : Bool} {hiRsp hiRip : BitVec 32} :
    SameCetInputs s.cpu (throughLine14 lma hiRsp hiRip s.cpu) := ⟨rfl, rfl, hvm.symm, rfl, rfl, rfl⟩

theorem sameCetInputs_cpuAtLine19 : SameCetInputs s.cpu s.cpuAtLine19 := ⟨rfl, rfl, hvm.symm, rfl, rfl, rfl⟩

theorem sameCetInputs_cpuAtLine20 : SameCetInputs s.cpu s.cpuAtLine20 := ⟨rfl, rfl, hvm.symm, rfl, rfl, rfl⟩

end CallerInputs

/-- Known predicates are settled: an entry keeps their inputs but `RFLAGS.VM`, which line 2 has cleared already. -/
theorem cetSettled_of_stated {s : State} (hstated : CetStated s.cfg) : s.CetSettled := by
  have hfirst : SameCetInputs s.cpuAtLine19 (enterKernel s).cpu :=
    ⟨rfl, rfl, rfl, rfl, enterKernel_sCet_shStkEn s, enterKernel_sCet_endbrEn s⟩
  have hsecond : SameCetInputs s.cpuAtLine20 (enterKernel s).cpu :=
    ⟨rfl, rfl, rfl, rfl, enterKernel_sCet_shStkEn s, enterKernel_sCet_endbrEn s⟩
  exact
    { invoked := shadowStackEnabled_congr hstated hfirst 0
      literal := shadowStackEnabled_congr hstated (hfirst.trans (sameCetInputs_throughLine14 rfl)) 0
      clears := shadowStackEnabled_congr hstated (hfirst.trans (sameCetInputs_cpuAtLine19 rfl)) 0
      arms := endbranchEnabled_congr hstated (hsecond.trans (sameCetInputs_cpuAtLine20 rfl)) 0 }

section PredicatesFalse

variable {s t : State}

/-- Predicates that are false on a state are false on every state with its background. -/
theorem State.CetPredicatesFalse.of_sameBackground (hfalse : s.CetPredicatesFalse) (hback : s.SameBackground t) :
    t.CetPredicatesFalse :=
  fun u hu p => hfalse u (hback.trans hu) p

/-- The processors on which an entry evaluates its predicates: the caller's, and those of lines 15, 19 and 20. They have
the caller's background. -/
theorem sameBackground_of_evaluated {c : Cpu} (hc : c = s.cpu ∨
    c = throughLine14 s.lma (freeHighRsp s) (freeHighRip s) s.cpu ∨ c = s.cpuAtLine19 ∨ c = s.cpuAtLine20) :
    s.SameBackground { s with cpu := c } := by
  rcases hc with rfl | rfl | rfl | rfl <;>
    exact ⟨rfl, rfl, rfl, rfl, ⟨rfl, rfl, rfl, rfl⟩, ⟨rfl, rfl, rfl⟩, ⟨rfl, rfl, rfl⟩, ⟨rfl, rfl, rfl⟩, rfl,
      ⟨rfl, rfl, rfl⟩⟩

variable (hfalse : s.CetPredicatesFalse)
include hfalse

theorem State.CetPredicatesFalse.invokedReading_eq : invokedReading s = false :=
  (hfalse _ (sameBackground_of_evaluated (.inl rfl)) s.cpu.cpl).1

theorem State.CetPredicatesFalse.literalReading_eq : literalReading s = false :=
  (hfalse _ (sameBackground_of_evaluated (.inr (.inl rfl))) s.cpu.cpl).1

theorem State.CetPredicatesFalse.clearsSsp_eq : s.clearsSsp = false :=
  (hfalse _ (sameBackground_of_evaluated (.inr (.inr (.inl rfl)))) 0).1

theorem State.CetPredicatesFalse.armsTracker_eq : s.armsTracker = false :=
  (hfalse _ (sameBackground_of_evaluated (.inr (.inr (.inr rfl)))) 0).2

/-- False predicates are settled. -/
theorem State.CetPredicatesFalse.cetSettled : s.CetSettled := by
  have hfalse' := hfalse.of_sameBackground (sameBackground_enterKernel s)
  exact
    { invoked := by rw [hfalse'.invokedReading_eq, hfalse.clearsSsp_eq]
      literal := by rw [hfalse'.literalReading_eq, hfalse.clearsSsp_eq]
      clears := by rw [hfalse'.clearsSsp_eq, hfalse.clearsSsp_eq]
      arms := by rw [hfalse'.armsTracker_eq, hfalse.armsTracker_eq] }

end PredicatesFalse

/-- In protected mode the customary predicate of line 19 is `CR4.CET` and the supervisor's enable bit (10_state.md rule
R28). -/
theorem clearsSsp_of_customary {s : State} (hcet : s.cfg.cetPresent = true) (hrule : s.cfg.cetRule = .customary)
    (hpe : s.cpu.cr0.PE = true) : s.clearsSsp = (s.cpu.cr4.CET && s.cpu.sCet.SH_STK_EN) := by
  simp [State.clearsSsp, State.cpuAtLine19, throughLine14, shadowStackEnabled_of_customary hcet hrule,
    shadowStackCustomary, cetActive, hpe]

section KernelShadowStack

variable {s t : State}

/-- What keeps the kernel's shadow stack off is in the background. -/
theorem State.KernelShadowStackOff.of_sameBackground (hoff : s.KernelShadowStackOff) (hback : s.SameBackground t) :
    t.KernelShadowStackOff := by
  rcases hoff with habsent | hfalse | ⟨hrule, hbits⟩
  · exact .inl (by rw [hback.cfg, habsent])
  · exact .inr (.inl (hfalse.of_sameBackground hback))
  · obtain ⟨-, hcr4, -⟩ := hback.controls
    obtain ⟨hshStk, -, -⟩ := hback.otherSCet
    exact .inr (.inr ⟨by rw [hback.cfg, hrule], by rw [hcr4, hshStk, hbits]⟩)

/-- Where the kernel's shadow stack is off, line 19 keeps `SSP` (40_sysenter.md rule R87). -/
theorem State.KernelShadowStackOff.clearsSsp_eq (hoff : s.KernelShadowStackOff) (hpe : s.cpu.cr0.PE = true) :
    s.clearsSsp = false := by
  rcases hoff with habsent | hfalse | ⟨hrule, hbits⟩
  · simp [State.clearsSsp, habsent]
  · exact hfalse.clearsSsp_eq
  · cases hcet : s.cfg.cetPresent with
    | false => simp [State.clearsSsp, hcet]
    | true => rw [clearsSsp_of_customary hcet hrule hpe, hbits]

/-- The predicates of the repetition statements are settled, each family for its own reason. -/
theorem cetSettled_of_off_or_customary (h : s.KernelShadowStackOff ∨ s.cfg.cetRule = .customary) : s.CetSettled := by
  rcases h with (habsent | hfalse | ⟨hrule, -⟩) | hrule
  · exact cetSettled_of_stated (.inl habsent)
  · exact hfalse.cetSettled
  · exact cetSettled_of_stated (.inr hrule)
  · exact cetSettled_of_stated (.inr hrule)

end KernelShadowStack

/-- With settled predicates a kernel entry is ready for another (40_sysenter.md rule R97). -/
theorem State.Ready.enterKernel {s : State} (hr : s.Ready) (hset : s.CetSettled) : (enterKernel s).Ready :=
  ⟨hr.sep, hr.canon, hr.notReal, hr.notNull, by rw [hset.invoked, hset.literal]⟩

theorem laAdjust_zero (n : Nat) : laAdjust n 0 = 0 := by
  simp [laAdjust, BitVec.signExtend, BitVec.toInt_zero]

section SecondEntry

variable {s : State} (hset : s.CetSettled)
include hset

/-- Line 19 of a second entry finds its own work done. -/
theorem State.CetSettled.ssp_eq : (enterKernel (enterKernel s)).cpu.ssp = (enterKernel s).cpu.ssp := by
  rw [enterKernel_ssp (enterKernel s), hset.clears]
  cases hclears : s.clearsSsp with
  | false => rfl
  | true => rw [enterKernel_ssp, hclears]; rfl

/-- Lines 20 to 22 of a second entry find their own work done. -/
theorem State.CetSettled.sCet_eq : (enterKernel (enterKernel s)).cpu.sCet = (enterKernel s).cpu.sCet := by
  rw [enterKernel_sCet (enterKernel s), hset.arms]
  cases harms : s.armsTracker with
  | false => rfl
  | true => rw [enterKernel_sCet, harms]; rfl

/-- A second entry saves the `SSP` that the first has cleared, or saves nothing (40_sysenter.md rule R97). -/
theorem State.CetSettled.pl3Ssp_eq : (enterKernel (enterKernel s)).cpu.pl3Ssp =
    if s.clearsSsp then 0 else (enterKernel s).cpu.pl3Ssp := by
  have hinvoked : shadowStackEnabled (enterKernel s).cfg (enterKernel s).cpu (enterKernel s).cpu.cpl = s.clearsSsp :=
    hset.invoked
  rw [enterKernel_pl3Ssp (enterKernel s), hinvoked]
  cases hclears : s.clearsSsp with
  | false => rfl
  | true =>
    have hssp : (enterKernel s).cpu.ssp = 0 := by rw [enterKernel_ssp, hclears]; rfl
    rw [hssp, laAdjust_zero, ite_self]

/-- A second entry changes the free high halves and `IA32_PL3_SSP` at most. -/
theorem State.CetSettled.cpu_eq : (enterKernel (enterKernel s)).cpu =
    { (enterKernel s).cpu with
      rip := (enterKernel (enterKernel s)).cpu.rip, rsp := (enterKernel (enterKernel s)).cpu.rsp
      pl3Ssp := (enterKernel (enterKernel s)).cpu.pl3Ssp } :=
  calc (enterKernel (enterKernel s)).cpu
    _ = { (enterKernel s).cpu with
          rip := (enterKernel (enterKernel s)).cpu.rip, rsp := (enterKernel (enterKernel s)).cpu.rsp
          pl3Ssp := (enterKernel (enterKernel s)).cpu.pl3Ssp, ssp := (enterKernel (enterKernel s)).cpu.ssp
          sCet := (enterKernel (enterKernel s)).cpu.sCet } := rfl
    _ = _ := by rw [hset.ssp_eq, hset.sCet_eq]

/-- In IA-32e mode a second entry changes `IA32_PL3_SSP` at most: no half word is free. -/
theorem State.CetSettled.enterKernel_eq_of_lma (hlma : s.lma = true) : enterKernel (enterKernel s) =
    { enterKernel s with
      cpu := { (enterKernel s).cpu with pl3Ssp := (enterKernel (enterKernel s)).cpu.pl3Ssp } } := by
  have hrip : (enterKernel (enterKernel s)).cpu.rip = (enterKernel s).cpu.rip := by simp [hlma]
  have hrsp : (enterKernel (enterKernel s)).cpu.rsp = (enterKernel s).cpu.rsp := by simp [hlma]
  have hcpu : (enterKernel (enterKernel s)).cpu =
      { (enterKernel s).cpu with pl3Ssp := (enterKernel (enterKernel s)).cpu.pl3Ssp } := by
    have h := hset.cpu_eq
    rwa [hrip, hrsp] at h
  have hdraws : (enterKernel (enterKernel s)).draws = (enterKernel s).draws := by simp [hlma]
  calc enterKernel (enterKernel s)
    _ = { enterKernel s with
          cpu := (enterKernel (enterKernel s)).cpu, draws := (enterKernel (enterKernel s)).draws } := rfl
    _ = _ := by rw [hcpu, hdraws]

/-- A second entry that leaves `IA32_PL3_SSP` as it was repeats the first (40_sysenter.md rule R97). -/
theorem State.CetSettled.repeatOf (hpl3 : (enterKernel (enterKernel s)).cpu.pl3Ssp = (enterKernel s).cpu.pl3Ssp) :
    (enterKernel (enterKernel s)).RepeatOf (enterKernel s) where
  same64 := fun hlma => by rw [hset.enterKernel_eq_of_lma hlma, hpl3]
  rip := by rw [low32_enterKernel_rip, low32_enterKernel_rip]; rfl
  rsp := by rw [low32_enterKernel_rsp, low32_enterKernel_rsp]; rfl
  rest := by rw [hset.cpu_eq, hpl3]
  mem := rfl
  cfg := rfl

/-- Where line 19 keeps `SSP`, the second entry repeats the first. -/
theorem State.CetSettled.second_repeatOf (hclears : s.clearsSsp = false) :
    (enterKernel (enterKernel s)).RepeatOf (enterKernel s) :=
  hset.repeatOf (by rw [hset.pl3Ssp_eq, hclears]; rfl)

/-- With predicates that stay settled, the third entry repeats the second: both have saved the cleared `SSP`, or
nothing. -/
theorem State.CetSettled.third_repeatOf (hset' : (enterKernel s).CetSettled) :
    (enterKernel (enterKernel (enterKernel s))).RepeatOf (enterKernel (enterKernel s)) := by
  refine hset'.repeatOf ?_
  rw [hset'.pl3Ssp_eq, hset.clears, hset.pl3Ssp_eq]
  split <;> rfl

end SecondEntry

/-- Settles O42: with no shadow stack at level 0 the predicates are settled and line 19 keeps `SSP`. -/
theorem sysenterRepeatsItself : Obligations.SysenterRepeatsItself := by
  intro s t hoff hexec
  obtain ⟨hr, rfl⟩ := (exec_sysenter_eq_next s t).1 hexec
  have hset := cetSettled_of_off_or_customary (.inl hoff)
  exact ⟨_, (hr.enterKernel hset).exec_sysenter, hset.second_repeatOf (hoff.clearsSsp_eq hr.notReal)⟩

/-- Settles O46: the customary predicates are settled on every state. -/
theorem thirdEntryRepeatsTheSecond : Obligations.ThirdEntryRepeatsTheSecond := by
  intro s t hrule hexec
  obtain ⟨hr, rfl⟩ := (exec_sysenter_eq_next s t).1 hexec
  have hset : s.CetSettled := cetSettled_of_stated (.inr hrule)
  have hset' : (enterKernel s).CetSettled := cetSettled_of_stated (.inr hrule)
  have hr' := hr.enterKernel hset
  refine ⟨_, _, hr'.exec_sysenter, (hr'.enterKernel hset').exec_sysenter, hset.third_repeatOf hset',
    fun hcet hcr4 hshStk => ?_⟩
  have hclears : s.clearsSsp = true := by simp [clearsSsp_of_customary hcet hrule hr.notReal, hcr4, hshStk]
  have hssp : (enterKernel s).cpu.ssp = 0 := by rw [enterKernel_ssp, hclears]; rfl
  exact ⟨hssp, by rw [hset.ssp_eq, hssp], by rw [hset.pl3Ssp_eq, hclears]; rfl⟩

/-- Settles O33: the first entry saves the caller's `SSP` and clears it, the second saves the 0, the third repeats. -/
theorem secondEntryLosesTheSavedPointer : Obligations.SecondEntryLosesTheSavedPointer := by
  intro s hr hlma hcet hrule hcr4 hshStk huser hvm
  have hset : s.CetSettled := cetSettled_of_stated (.inr hrule)
  have hset' : (enterKernel s).CetSettled := cetSettled_of_stated (.inr hrule)
  have hr' := hr.enterKernel hset
  have hr'' := hr'.enterKernel hset'
  have hclears : s.clearsSsp = true := by simp [clearsSsp_of_customary hcet hrule hr.notReal, hcr4, hshStk]
  have hsaves : shadowStackEnabled s.cfg s.cpu s.cpu.cpl = true := by
    have hinvoked := invokedReading_of_customary hcet hrule hr.notReal
    rw [← invokedReading, hinvoked]
    simp [hcr4, hvm, callerShadowStackOn, huser, hshStk]
  have hthird : enterKernel (enterKernel (enterKernel s)) = enterKernel (enterKernel s) :=
    (hset.third_repeatOf hset').same64 hlma
  refine ⟨_, _, hr.exec_sysenter, hr'.exec_sysenter, by rw [hr''.exec_sysenter, hthird], ?_, ?_, ?_⟩
  · rw [enterKernel_pl3Ssp, hsaves, hlma]
    rfl
  · rw [enterKernel_ssp, hclears]
    rfl
  · rw [hset.enterKernel_eq_of_lma hlma, hset.pl3Ssp_eq, hclears]
    rfl

/-! # Proofs: an entry point that holds `SYSENTER` -/

theorem State.RepeatOf.refl (s : State) : s.RepeatOf s := ⟨fun _ => rfl, rfl, rfl, rfl, rfl, rfl⟩

theorem State.RepeatOf.trans {s t u : State} (h : u.RepeatOf t) (h' : t.RepeatOf s) : u.RepeatOf s where
  same64 := fun hlma => by
    obtain rfl := h'.same64 hlma
    exact h.same64 hlma
  rip := h.rip.trans h'.rip
  rsp := h.rsp.trans h'.rsp
  rest := by rw [← h'.rest, ← h.rest]
  mem := h.mem.trans h'.mem
  cfg := h.cfg.trans h'.cfg

/-- A state in a loop of entries: it fetches `SYSENTER`, is ready, has predicates that stay settled, and its entry point
holds `SYSENTER` too (40_sysenter.md rule R97). -/
structure State.Looping (s : State) : Prop where
  fetch : s.fetchDecode = .ok .sysenter
  ready : s.Ready
  cet : s.KernelShadowStackOff ∨ s.cfg.cetRule = .customary
  escape : s.mem.read s.entryPoint = some escapeByte
  opcode : s.mem.read (s.entryPoint + 1) = some sysenterByte

section Loop

variable {s : State} (hloop : s.Looping)
include hloop

theorem State.Looping.cetSettled : s.CetSettled := cetSettled_of_off_or_customary hloop.cet

theorem State.Looping.step_eq : step s = .next (enterKernel s) :=
  (step_eq_next s _).2 ⟨hloop.fetch, hloop.ready, rfl⟩

/-- An entry stays in the loop: it is at the entry point, and keeps everything else the loop asks for. -/
theorem State.Looping.enterKernel : (enterKernel s).Looping := by
  have haddr := fetchAddress_enterKernel hloop.ready
  obtain ⟨rest, hfetch⟩ := fetchBytes_of_two_mapped (s := Machine.enterKernel s)
    (by rw [haddr]; exact hloop.escape) (by rw [haddr]; exact hloop.opcode)
  exact
    { fetch := (fetchDecode_eq_ok _ _).2 ⟨rest, by rw [hfetch]; exact decode_encode_append .sysenter rest⟩
      ready := hloop.ready.enterKernel hloop.cetSettled
      cet := hloop.cet.imp (fun hoff => hoff.of_sameBackground (sameBackground_enterKernel s)) id
      escape := hloop.escape
      opcode := hloop.opcode }

theorem State.Looping.iterate (n : Nat) : (Machine.enterKernel^[n] s).Looping := by
  induction n with
  | zero => exact hloop
  | succ n ih =>
    rw [Function.iterate_succ_apply']
    exact ih.enterKernel

end Loop

/-- A run in the loop completes, however long, and is a row of entries. -/
theorem State.Looping.run_eq {s : State} (hloop : s.Looping) (n : Nat) :
    Sys2Proof.core.run n s = .next (Machine.enterKernel^[n] s) := by
  induction n generalizing s with
  | zero => rfl
  | succ n ih => rw [run_succ_of_next s _ n hloop.step_eq, ih hloop.enterKernel, Function.iterate_succ_apply]

/-- Where the kernel's shadow stack is off, every entry of the loop repeats the first. -/
theorem State.Looping.repeatOf_first {s : State} (hloop : s.Looping) (hoff : s.KernelShadowStackOff) (n : Nat) :
    (Machine.enterKernel^[n + 1] s).RepeatOf (Machine.enterKernel s) := by
  induction n generalizing s with
  | zero => exact .refl _
  | succ n ih =>
    have hfirst := hloop.cetSettled.second_repeatOf (hoff.clearsSsp_eq hloop.ready.notReal)
    rw [Function.iterate_succ_apply]
    exact (ih hloop.enterKernel (hoff.of_sameBackground (sameBackground_enterKernel s))).trans hfirst

/-- Every entry of the loop from the second on repeats the second. -/
theorem State.Looping.repeatOf_second {s : State} (hloop : s.Looping) (n : Nat) :
    (Machine.enterKernel^[n + 2] s).RepeatOf (Machine.enterKernel^[2] s) := by
  induction n generalizing s with
  | zero => exact .refl _
  | succ n ih =>
    have hthird := hloop.cetSettled.third_repeatOf hloop.enterKernel.cetSettled
    rw [Function.iterate_succ_apply]
    exact (ih hloop.enterKernel).trans hthird

/-- Settles O43: the first step starts the loop. -/
theorem entryPointLoopNeverEnds : Obligations.EntryPointLoopNeverEnds := by
  intro s t hstep hescape hopcode
  obtain ⟨hfetch, hr, rfl⟩ := (step_eq_next s t).1 hstep
  rw [fetchAddress_enterKernel hr] at hescape hopcode
  have hloop (hcet : s.KernelShadowStackOff ∨ s.cfg.cetRule = .customary) : s.Looping :=
    ⟨hfetch, hr, hcet, hescape, hopcode⟩
  refine ⟨fun hcet n => ⟨_, (hloop hcet).run_eq n⟩, fun hoff n => ?_, fun hrule => ?_⟩
  · exact ⟨_, (hloop (.inl hoff)).run_eq (n + 1), (hloop (.inl hoff)).repeatOf_first hoff n⟩
  · exact ⟨_, (hloop (.inr hrule)).run_eq 2,
      fun n => ⟨_, (hloop (.inr hrule)).run_eq (n + 2), (hloop (.inr hrule)).repeatOf_second n⟩⟩

end Sys2Proof.Machine

/-! # Proofs: `WriteMSR` and the CPUID test -/

namespace Sys2Proof.Machine

section WriteMsr

variable (s : State) (m : SysenterMsr) (v : Word)

/-- `WriteMSR` refuses exactly the values the MSR does not take, and for one reason (41_related_instructions.md rule
R106). -/
theorem writeMsr_eq_refused (r : Refusal) :
    writeMsr m v s = .refused r ↔ msrAccepts s.cfg m v = false ∧ r = .noncanonicalMsrWrite := by
  unfold writeMsr
  cases msrAccepts s.cfg m v with
  | true => simp
  | false => simp [eq_comm (b := r)]

/-- Settles O34: the selector MSR takes every value, and an address MSR takes exactly the canonical ones. -/
theorem writeMsrFollowsItsRule : Obligations.WriteMsrFollowsItsRule := by
  intro s v
  refine ⟨?_, fun hcanon => ⟨?_, ?_⟩, fun hnon => ⟨?_, ?_⟩⟩
  · exact (writeMsr_eq_next s _ .cs v).2 ⟨rfl, rfl⟩
  · exact (writeMsr_eq_next s _ .esp v).2 ⟨hcanon, rfl⟩
  · exact (writeMsr_eq_next s _ .eip v).2 ⟨hcanon, rfl⟩
  · exact (writeMsr_eq_refused s .esp v _).2 ⟨hnon, rfl⟩
  · exact (writeMsr_eq_refused s .eip v _).2 ⟨hnon, rfl⟩

variable {s m v}

/-- `P_canon` asks for two canonical addresses, and only where Intel 64 is present (10_state.md rule R23). -/
theorem canonicalMsrs_eq_true (cfg : Config) (c : Cpu) :
    canonicalMsrs cfg c = true ↔
      (cfg.intel64Present = true →
        canonical cfg.laWidth c.sysenterEip = true ∧ canonical cfg.laWidth c.sysenterEsp = true) := by
  unfold canonicalMsrs
  cases cfg.intel64Present <;> simp

/-- The premise `P_canon` after a write the MSR takes: the MSR written has an accepted value, the other its old one. -/
theorem canonicalMsrs_setMsr {cfg : Config} {c : Cpu} (hcanon : canonicalMsrs cfg c = true)
    (haccepts : msrAccepts cfg m v = true) : canonicalMsrs cfg (setMsr m v c) = true := by
  refine (canonicalMsrs_eq_true cfg _).2 fun h64 => ?_
  obtain ⟨heip, hesp⟩ := (canonicalMsrs_eq_true cfg c).1 hcanon h64
  cases m with
  | cs => exact ⟨heip, hesp⟩
  | esp => exact ⟨heip, haccepts⟩
  | eip => exact ⟨haccepts, hesp⟩

/-- The invariant holds after a write the MSR takes: of the registers it reads, only the address MSRs can change. -/
theorem State.Legal.setMsr (hl : s.Legal) (haccepts : msrAccepts s.cfg m v = true) :
    State.Legal { s with cpu := Machine.setMsr m v s.cpu } where
  mem := hl.mem
  cfg := hl.cfg
  canon := canonicalMsrs_setMsr hl.canon haccepts
  noIa32e := by simpa using hl.noIa32e
  lmaProtected := by simpa using hl.lmaProtected
  lmaNotVm := by simpa using hl.lmaNotVm
  csSize := by simpa using hl.csSize

end WriteMsr

/-- Settles O35: a write that is not refused is one the MSR takes, which keeps the invariant. -/
theorem writeMsrKeepsLegal : Obligations.WriteMsrKeepsLegal := by
  intro s t m v hl hwrite
  obtain ⟨haccepts, rfl⟩ := (writeMsr_eq_next s t m v).1 hwrite
  exact ⟨hl.setMsr haccepts, readMsr_setMsr m v s.cpu, fun n hn => readMsr_setMsr_ne m v s.cpu n hn⟩

section CpuidTest

variable (r : CpuidReport)

/-- The test passes on a set SEP bit, but for the early steppings (41_related_instructions.md rule R104). -/
theorem cpuidTest_eq_true :
    cpuidTest r = true ↔ r.sepBit = true ∧ ¬(r.family = 6 ∧ r.model < 3 ∧ r.stepping < 3) := by
  have hearly : (r.family == 6 && decide (r.model < 3) && decide (r.stepping < 3)) =
      decide (r.family = 6 ∧ r.model < 3 ∧ r.stepping < 3) := by
    rw [Bool.eq_iff_iff]
    simp [and_assoc]
  rw [cpuidTest, hearly, Bool.and_eq_true, Bool.not_eq_true', decide_eq_false_iff_not]

theorem isPentiumPro_eq_true : isPentiumPro r = true ↔ r.family = 6 ∧ r.model = 1 := by
  simp [isPentiumPro]

/-- The prose refuses every Pentium Pro (41_related_instructions.md rule R105). -/
theorem sepPresentOf_of_pentiumPro (h : isPentiumPro r = true) : sepPresentOf r = false := by
  simp [sepPresentOf, h]

/-- The prose adds nothing to the test on any other processor (41_related_instructions.md rule R105). -/
theorem sepPresentOf_of_not_pentiumPro (h : isPentiumPro r = false) : sepPresentOf r = cpuidTest r := by
  simp [sepPresentOf, h]

end CpuidTest

/-- Settles O36: the test is read off its definition, and the prose changes it on the Pentium Pro alone. -/
theorem cpuidTestOnPentiumPro : Obligations.CpuidTestOnPentiumPro := by
  intro r
  refine ⟨cpuidTest_eq_true r, fun hfamily hmodel => ?_, fun hother => ?_⟩
  · exact sepPresentOf_of_pentiumPro r ((isPentiumPro_eq_true r).2 ⟨hfamily, hmodel⟩)
  · refine sepPresentOf_of_not_pentiumPro r (Bool.eq_false_iff.2 fun hpro => ?_)
    exact hother ((isPentiumPro_eq_true r).1 hpro)

end Sys2Proof.Machine

/-! # Proofs: which bytes an instruction fetched consists of, and when a step faults -/

namespace Sys2Proof.Machine

section FetchedInstruction

variable {m : Memory} {s : State} {i : Instr} {bs : List Byte} {n : Nat} {a : Word}

/-- The bytes a fetch begins with are mapped in increasing address order: the converse of `prefix_bytesFrom` (20_memory.md
rule R44). -/
theorem read_of_prefix_bytesFrom (h : bs <+: bytesFrom m n a) :
    ∀ k < bs.length, Memory.read m (a + BitVec.ofNat 64 k) = bs[k]? := by
  induction bs generalizing n a with
  | nil => simp
  | cons b bs ih =>
    obtain ⟨rest, hfetch⟩ := h
    obtain _ | n := n
    · simp [bytesFrom] at hfetch
    obtain ⟨hfirst, htail⟩ := bytesFrom_succ_eq_cons.1 hfetch.symm
    rintro (_ | k) hk
    · simpa using hfirst
    · rw [add_ofNat_succ, List.getElem?_cons_succ]
      exact ih ⟨rest, htail.symm⟩ k (Nat.lt_of_succ_lt_succ hk)

theorem length_encode_le (i : Instr) : (encode i).length ≤ longestInstr := by
  cases i with
  | sysenter | lockSysenter => decide

/-- An instruction is fetched exactly where its encoding stands at the fetch address (20_memory.md rules R43, R44). -/
theorem fetchDecode_eq_ok_iff_read : s.fetchDecode = .ok i ↔
    ∀ k < (encode i).length, s.mem.read (s.fetchAddress + BitVec.ofNat 64 k) = (encode i)[k]? := by
  rw [fetchDecode_eq_ok]
  constructor
  · rintro ⟨rest, hdecode⟩
    exact read_of_prefix_bytesFrom ⟨rest, (eq_encode_append_of_decode_eq_instr hdecode).symm⟩
  · intro hmapped
    have hlen : (encode i).length ≤ 2 ^ 64 := (length_encode_le i).trans (by decide)
    obtain ⟨rest, hfetch⟩ := prefix_fetchBytes hlen hmapped
    exact ⟨rest, hfetch ▸ decode_encode_append i rest⟩

/-- `0F 34` stands where `SYSENTER` is fetched (30_encoding.md rule R61). -/
theorem read_of_fetchDecode_eq_sysenter (h : s.fetchDecode = .ok .sysenter) :
    s.mem.read s.fetchAddress = some 0x0F ∧ s.mem.read (s.fetchAddress + 1) = some 0x34 := by
  have hread := fetchDecode_eq_ok_iff_read.1 h
  have hfirst := hread 0 (by decide)
  rw [BitVec.add_zero] at hfirst
  exact ⟨hfirst, hread 1 (by decide)⟩

/-- `F0 0F 34` stands where the LOCK form is fetched (30_encoding.md rule R63). -/
theorem read_of_fetchDecode_eq_lockSysenter (h : s.fetchDecode = .ok .lockSysenter) :
    s.mem.read s.fetchAddress = some 0xF0 ∧ s.mem.read (s.fetchAddress + 1) = some 0x0F ∧
      s.mem.read (s.fetchAddress + 2) = some 0x34 := by
  have hread := fetchDecode_eq_ok_iff_read.1 h
  have hfirst := hread 0 (by decide)
  rw [BitVec.add_zero] at hfirst
  exact ⟨hfirst, hread 1 (by decide), hread 2 (by decide)⟩

end FetchedInstruction

section Faults

variable (s : State) (f : Fault)

/-- The LOCK form raises `#UD` and no other exception, wherever the instruction is present (60_exceptions.md rules R122,
R124). -/
theorem exec_lockSysenter_eq_fault : exec .lockSysenter s = .fault f ↔ s.cfg.sepPresent = true ∧ f = .ud := by
  simp [exec_lockSysenter_eq, execLockSysenter, requireSep_eq_fault, raise, @eq_comm _ f]

/-- A step faults exactly where it fetches an instruction that faults (70_reset_and_hazards.md rule R144). -/
theorem step_eq_fault : step s = .fault f ↔ ∃ i, s.fetchDecode = .ok i ∧ exec i s = .fault f := by
  unfold step
  cases s.fetchDecode with
  | error r => simp
  | ok i => simp

end Faults

/-- Settles O14: the instruction fetched tells the bytes and the fault, and `#GP(0)` is the check of line 1. -/
theorem faultsHaveTheTwoCauses : Obligations.FaultsHaveTheTwoCauses := by
  intro s f hstep
  obtain ⟨i, hfetch, hexec⟩ := (step_eq_fault s f).1 hstep
  cases i with
  | sysenter =>
    obtain ⟨-, -, hcheck, hf⟩ := (exec_sysenter_eq_fault s f).1 hexec
    obtain ⟨hescape, hsysenter⟩ := read_of_fetchDecode_eq_sysenter hfetch
    exact .inr ⟨hf, hescape, hsysenter, (entryCheckFails_eq_true s.cpu).1 hcheck⟩
  | lockSysenter =>
    obtain ⟨-, hf⟩ := (exec_lockSysenter_eq_fault s f).1 hexec
    exact .inl ⟨hf, read_of_fetchDecode_eq_lockSysenter hfetch⟩

/-- Settles O12: the null selector is the second disjunct of the check of line 1, whatever the mode. -/
theorem nullSelectorRaisesGp : Obligations.NullSelectorRaisesGp := by
  intro s hsep hcanon _ hnull
  exact (exec_sysenter_eq_gp_iff hsep hcanon).2 (.inr hnull)

/-- Settles O13: the one check of the LOCK form is the first check of both forms. -/
theorem lockSysenterRaisesUd : Obligations.LockSysenterRaisesUd := by
  intro s
  constructor
  · intro hsep
    exact (exec_lockSysenter_eq_fault s _).2 ⟨hsep, rfl⟩
  · intro habsent
    exact ⟨(exec_lockSysenter_eq_refused s _).2 ⟨habsent, rfl⟩,
      (exec_sysenter_eq_refused s _).2 (.inl ⟨habsent, rfl⟩)⟩

end Sys2Proof.Machine

/-! # Proofs: an instruction placed where the next step fetches -/

namespace Sys2Proof.Machine

section PlacedBytes

/-- The addresses after `a`, up to the size of the address space, are not `a` again. -/
theorem ne_add_ofNat_succ (a : Word) {k : Nat} (hk : k + 1 < 2 ^ 64) : a ≠ a + BitVec.ofNat 64 (k + 1) := by
  intro heq
  have hnat := congrArg BitVec.toNat heq
  simp only [BitVec.toNat_add, BitVec.toNat_ofNat] at hnat
  omega

/-- Bytes just written are what is read at their addresses (20_memory.md rule R44). -/
theorem read_writeBytes_same {bs : List Byte} (m : Memory) (a : Word) (hlen : bs.length ≤ 2 ^ 64) :
    ∀ k < bs.length, Memory.read (Memory.writeBytes m a bs) (a + BitVec.ofNat 64 k) = bs[k]? := by
  induction bs generalizing m a with
  | nil => simp
  | cons b bs ih =>
    rw [List.length_cons] at hlen
    rintro (_ | k) hk
    · have hlater : ∀ j < bs.length, a ≠ a + 1 + BitVec.ofNat 64 j := fun j hj => by
        rw [← add_ofNat_succ]
        exact ne_add_ofNat_succ a (by omega)
      rw [BitVec.add_zero, Memory.writeBytes, Memory.read_writeBytes_other a bs _ _ hlater]
      exact Memory.read_write_same m a b
    · rw [add_ofNat_succ, List.getElem?_cons_succ]
      exact ih (Memory.write m a b) (a + 1) (by omega) k (Nat.lt_of_succ_lt_succ hk)

variable {s : State} {nbits w : Nat} {i : Instr}

/-- The fetch address does not depend on the memory (20_memory.md rule R43). -/
theorem fetchAddress_placeBytes (bs : List Byte) : (s.placeBytes bs).fetchAddress = s.fetchAddress := rfl

/-- The next fetch begins with the bytes placed. -/
theorem prefix_fetchBytes_placeBytes {bs : List Byte} (hlen : bs.length ≤ 2 ^ 64) :
    bs <+: (s.placeBytes bs).fetchBytes := by
  apply prefix_fetchBytes hlen
  rw [fetchAddress_placeBytes]
  exact read_writeBytes_same s.mem s.fetchAddress hlen

theorem decodeTableWord_eq_some :
    decodeTableWord nbits w = some i ↔ ∃ rest, decode (instructionBytes nbits w) = .instr i rest := by
  unfold decodeTableWord
  split <;> simp_all

/-- A word of the opcode table, placed where the next step fetches, runs the instruction it decodes to: bytes mapped after
it do not change how it decodes (30_encoding.md rule R65). -/
theorem step_withFetchWord (hw : nbits / 8 ≤ 3) (h : decodeTableWord nbits w = some i) :
    step (s.withFetchWord nbits w) = exec i (s.withFetchWord nbits w) := by
  obtain ⟨zeros, hdecode⟩ := decodeTableWord_eq_some.1 h
  have hlen : (instructionBytes nbits w).length ≤ 2 ^ 64 := by rw [length_instructionBytes w hw]; decide
  have hplaced : instructionBytes nbits w <+: (s.withFetchWord nbits w).fetchBytes := prefix_fetchBytes_placeBytes hlen
  obtain ⟨after, hfetch⟩ := hplaced
  apply step_of_decode_eq_instr
  rw [← hfetch, eq_encode_append_of_decode_eq_instr hdecode, List.append_assoc]
  exact decode_encode_append i (zeros ++ after)

end PlacedBytes

/-- Settles O8: both words of the table decode to their instructions. -/
theorem placedInstructionRuns : Obligations.PlacedInstructionRuns := by
  obtain ⟨-, -, hsysenter, hlockSysenter, -⟩ := decodesTheWordsOfTheTable
  exact fun _ => ⟨step_withFetchWord (by decide) hsysenter, step_withFetchWord (by decide) hlockSysenter⟩

/-! # Proofs: the outcome of `SYSENTER` and of a step -/

/-- Settles O10: each branch is one outcome of `exec`, and the last is readiness. -/
theorem sysenterOutcomeInOrder : Obligations.SysenterOutcomeInOrder := by
  intro s
  simp only [and_mask_eq_zero_iff]
  split_ifs with habsent hnoncanonical hcheck hdiffer
  · exact (exec_sysenter_eq_refused s _).2 (.inl ⟨habsent, rfl⟩)
  all_goals have hsep : s.cfg.sepPresent = true := Bool.eq_true_of_not_eq_false habsent
  · exact (exec_sysenter_eq_refused s _).2 (.inr ⟨hsep, .inl ⟨hnoncanonical, rfl⟩⟩)
  all_goals have hcanon : canonicalMsrs s.cfg s.cpu = true := Bool.eq_true_of_not_eq_false hnoncanonical
  · exact (exec_sysenter_eq_gp_iff hsep hcanon).2 hcheck
  all_goals
    obtain ⟨hprotected, hnull⟩ := not_or.1 hcheck
    have hpe : s.cpu.cr0.PE = true := Bool.eq_true_of_not_eq_false hprotected
  · exact (exec_sysenter_eq_ambiguous_iff hsep hcanon hpe hnull).2 hdiffer
  · have hr : s.Ready := ⟨hsep, hcanon, hpe, hnull, not_not.1 hdiffer⟩
    exact ⟨_, hr.exec_sysenter⟩

/-- Settles O15: a step that completes has fetched `SYSENTER` in a ready state, and conversely. -/
theorem stepCompletesExactlyWhen : Obligations.StepCompletesExactlyWhen := by
  intro s
  constructor
  · rintro ⟨t, hstep⟩
    obtain ⟨hfetch, hr, -⟩ := (step_eq_next s t).1 hstep
    exact ⟨hr, read_of_fetchDecode_eq_sysenter hfetch⟩
  · rintro ⟨hr, hescape, hsysenter⟩
    have hstep : step s = exec .sysenter s := (mappedBytesRun s).1 hescape hsysenter
    exact ⟨_, hstep.trans hr.exec_sysenter⟩

/-- Settles O4: an instruction fetched is executed, whatever bytes follow it. -/
theorem stepRunsTheDecodedInstruction : Obligations.StepRunsTheDecodedInstruction :=
  fun _ _ _ _ hdecode => step_of_decode_eq_instr hdecode

end Sys2Proof.Machine
